-- ==== Sys2Proof/Word.lean ====
section
/-! DEFINITION. The word types of the block: a byte (00_scope.md R4, R6) and a 7-bit device address (R4, 20_memory.md R30). -/

namespace Sys2Proof

/-- One byte of a frame, bit 7 the most significant (R6). -/
abbrev Byte := BitVec 8

/-- A device address of the two-wire bus (R13, R30). -/
abbrev DeviceAddress := BitVec 7

/-- `b2n` (R6): 1 when the flag is true, 0 when it is false, as one bit. -/
abbrev flagBit (f : Bool) : BitVec 1 := BitVec.ofBool f

end Sys2Proof
end

