-- ==== Sys2Proof/Config.lean ====
section
/-! DEFINITION. The fixed parameters of 00_scope.md R4, what the transport can answer (20_memory.md R31 to R33), and the free
values: what the transport answers where State lists no answer for it (92_eei_decisions.md D21). -/

namespace Sys2Proof

/-- The content of a `TransportError` (R46, R110): opaque to the block, passed through unmodified, so a plain token here.
DESIGN CHOICE (notes/assumptions/13.md), safe: nothing in the model looks at it. -/
abbrev TransportCause := Nat

/-- How a bus write that returns can end (R32). -/
inductive WriteOutcome where
  | success
  | transportError (cause : TransportCause)
  deriving DecidableEq, Repr, Inhabited

/-- How a bus read that returns can end (R33). The contract promises as many bytes as were asked for; any other count is the
case of R113. -/
inductive ReadOutcome where
  | bytes (received : List Byte)
  | transportError (cause : TransportCause)
  deriving DecidableEq, Repr, Inhabited

/-- One bus call: it returns an outcome, or it never returns (R44, R139). -/
inductive BusCall (α : Type) where
  | returns (outcome : α)
  | never
  deriving DecidableEq, Repr

namespace Config

/-- PADS_TOTAL (R4). -/
def padsTotal : Nat := 16

/-- STATUS_LEN (R4, R35). -/
def statusLength : Nat := 6

/-- The default of DEV_ADDR (R4, R13, D9). -/
def defaultDeviceAddress : DeviceAddress := 0x50#7

/-- CFG_B0_BIT6 (R4, R50; D1): bit 6 of byte 0 of the initialization frame. The source is silent on it; the spec sets it to 0.
DESIGN CHOICE of the spec (notes/assumptions/7.md), unsafe. -/
def configByte0Bit6 : BitVec 1 := 0#1

/-- Free value (D21; notes/assumptions/2.md): the outcome of a bus write for which State lists no answer. -/
opaque freeWriteOutcome : Nat → WriteOutcome

/-- Free value (D21; notes/assumptions/2.md): the outcome of a bus read for which State lists no answer. -/
opaque freeReadOutcome : Nat → ReadOutcome

end Config

end Sys2Proof
end

