-- ==== Sys2Proof/Syntax.lean ====
section
/-! DEFINITION. The instruction set: one constructor per row of spec/opcode_table.json (five wire frames, 30_encoding.md R50 to
R53, and seven rows of the host port, R62 and R63), and what can be presented to the block: the lines of the coded host port
(R63) or the bytes of a wire frame. -/

namespace Sys2Proof

/-- The instructions. Operands of the six operations have the types of R62: numeric operands are natural numbers of unbounded
width, the flags single bits, auto_reset_mode two bits (R61, R66; D2). Fields of the frames have the widths of R50 to R53. -/
inductive Instr where
  /-- CONFIG_FRAME (R50, R70): the fields s, p, d, a, k, t, y, x, z of the row, in that order. -/
  | configFrame (skm psm dt : Bool) (arm : BitVec 2) (nbk : BitVec 5) (katm1 : BitVec 3) (s2p s1p s3p : BitVec 4)
  /-- CUSTOM_THRESHOLD_FRAME (R51, R80): the fields n, m, l, h. -/
  | customThresholdFrame (pad med low high : BitVec 4)
  /-- SLEEP_THRESHOLD_FRAME (R52, R82): the fields m, l, h. -/
  | sleepThresholdFrame (med low high : BitVec 4)
  /-- STATUS_FRAME (R53, R90): the fields u, c, b, a, l, h, p, q, r. -/
  | statusFrame (ignored : BitVec 4) (st2 st1 st0 : Bool) (buttonsLow buttonsHigh pos0 pos1 pos2 : Byte)
  /-- STATUS_FRAME_UNCALIBRATED (R91): byte 0 bits 6..0 and bytes 1 to 5, none of them inspected. -/
  | statusFrameUncalibrated (rest0 : BitVec 7) (b1 b2 b3 b4 b5 : Byte)
  /-- CONFIGURE (R62, R72). -/
  | configure (s1 s2 s3 : Nat) (skm psm dt : Bool) (arm : BitVec 2) (kat : Nat) (nbkOverride : Option Nat)
  /-- SET_CUSTOM_THRESHOLD (R62, R81). -/
  | setCustomThreshold (pad low med high : Nat)
  /-- SET_SLEEP_THRESHOLD (R62, R83). -/
  | setSleepThreshold (low med high : Nat)
  /-- READ (R62, R92). -/
  | read
  /-- BUTTON (R62, R100); `n` is 0-based. -/
  | button (n : Nat)
  /-- SLIDER (R62, R101); `n` is 1-based. -/
  | slider (n : Nat)
  /-- ILLEGAL_OP (R63): the select codes 6 and 7; `x` is the lowest bit of the code. -/
  | illegalOp (x : BitVec 1)
  deriving DecidableEq, Repr

/-- The lines of the coded host port (R63): the operation select OP[2:0], four numeric operand lines of unbounded width
(OPERAND_WIDTH is open, R4), three flag lines, the two-bit line of auto_reset_mode, and the optional nb_keys override (R64).
Which operand stands on which line is a DESIGN CHOICE (notes/assumptions/8.md), safe. -/
structure HostPort where
  op : BitVec 3
  a : Nat
  b : Nat
  c : Nat
  d : Nat
  f0 : Bool
  f1 : Bool
  f2 : Bool
  mode2 : BitVec 2
  override : Option Nat
  deriving DecidableEq, Repr

/-- What is presented: an operation at the host port, or a wire frame, byte 0 first (R34). -/
inductive Presented where
  | host (port : HostPort)
  | frame (bytes : List Byte)
  deriving DecidableEq, Repr

/-- One move of the host (R45): present something, or reset by creating the block anew with its device address (R130). -/
inductive HostMove where
  | present (p : Presented)
  | reset (address : DeviceAddress)
  deriving DecidableEq, Repr

/-- Why bytes are no frame of the table. -/
inductive DecodeError where
  /-- Not 3, 4 or 6 bytes (R35, R58). -/
  | frameLength
  /-- A first byte that no frame of that length has (R58, R59). -/
  | firstByte
  /-- A reserved bit of a later byte is set (R57). -/
  | reservedBits
  deriving DecidableEq, Repr

/-- What decoding answers. -/
inductive Decoded where
  | instr (i : Instr)
  | rejected (why : DecodeError)
  deriving DecidableEq, Repr

end Sys2Proof
end

