-- ==== Sys2Proof/Machine/State.lean ====
section
/-! DEFINITION. The state of the block (10_state.md R10 to R23), the transport's pending answers and the host's moves as plain
data, what can be observed (00_scope.md R5), the results and errors (60_exceptions.md R110, R111), and the state after reset. -/

namespace Sys2Proof.Machine

/-- MODE (R12). -/
inductive Mode where
  | unconfigured
  | configured
  deriving DecidableEq, Repr

/-- A held DeviceConfig (R14): the values as the host presented them, and the resolved nb_keys. -/
structure DeviceConfig where
  s1p : Nat
  s2p : Nat
  s3p : Nat
  skm : Bool
  psm : Bool
  dt : Bool
  arm : BitVec 2
  kat : Nat
  nbk : Nat
  deriving DecidableEq, Repr

/-- A StatusFrame (R18). -/
structure StatusFrame where
  calv : Bool
  st0 : Bool
  st1 : Bool
  st2 : Bool
  buttons : BitVec 16
  pos0 : Byte
  pos1 : Byte
  pos2 : Byte
  deriving DecidableEq, Repr

/-- The errors an operation can return to the host: the three of the source (R110) and the six the spec adds (R111). -/
inductive OpError where
  | configError
  | transportError (cause : TransportCause)
  | calibrationError
  | notConfigured
  | alreadyConfigured
  | noSnapshot
  | operandFault
  | frameLengthFault
  | illegalOp
  deriving DecidableEq, Repr

/-- The values an operation can return (R62), and the values of the pure functions (R70, R80, R82, R90). -/
inductive Value where
  /-- `()`. -/
  | unit
  /-- One bit (BUTTON). -/
  | bit (b : Bool)
  /-- A touch flag and a position (SLIDER). -/
  | touch (touched : Bool) (position : Byte)
  /-- The bytes a frame builder produced. -/
  | frame (bytes : List Byte)
  /-- The StatusFrame the decoder produced. -/
  | status (f : StatusFrame)
  deriving DecidableEq, Repr

/-- What the host gets back from one operation (R115): a value, or an error in place of it. -/
inductive Result where
  | ok (v : Value)
  | error (e : OpError)
  deriving DecidableEq, Repr

/-- One bus transaction as the transport is called (R31, R36): the address byte, and the payload or the length asked for. -/
inductive Transaction where
  | write (address : Byte) (payload : List Byte)
  | read (address : Byte) (length : Nat)
  deriving DecidableEq, Repr

/-- Why the machine stops with a fault. -/
inductive Fault where
  /-- A bus call that never returns (R44, R139; U13): the operation has no next step. Raised by CONFIGURE,
  SET_CUSTOM_THRESHOLD, SET_SLEEP_THRESHOLD and READ when the transport's next answer is `never`. Safe: the machine stops
  where the hardware is blocked. -/
  | busCallNeverReturns
  deriving DecidableEq, Repr

/-- Why a step is refused. -/
inductive Refusal where
  /-- An instruction that has no meaning yet; no arm of `exec` answers it. Safe: the machine stops. -/
  | notModelled (mnemonic : String)
  /-- Bytes that are no frame of the table were presented (R57, R58, R59: "no meaning"). Raised by the step, never by an
  instruction. Safe: the machine stops. -/
  | undecodable (why : DecodeError)
  deriving DecidableEq, Repr

/-- The state. The first four fields are the block's (R10); the others are the model's own: the host's coming moves, the
transport's coming answers, the counter of free answers, and the two observations of R5, newest first. -/
structure State where
  mode : Mode
  deviceAddress : DeviceAddress
  cfg : Option DeviceConfig
  snap : Option StatusFrame
  script : List HostMove
  writeAnswers : List (BusCall WriteOutcome)
  readAnswers : List (BusCall ReadOutcome)
  freeIndex : Nat
  bus : List Transaction
  results : List Result
  deriving DecidableEq, Repr

/-- The block right after reset (R22, R130): Unconfigured, no configuration, no snapshot, DEV_ADDR at its default. The model's
own fields are empty or zero (DESIGN CHOICE, notes/assumptions/2.md, 4.md and 6.md). -/
def State.reset : State :=
  { mode := .unconfigured
    deviceAddress := Config.defaultDeviceAddress
    cfg := none
    snap := none
    script := []
    writeAnswers := []
    readAnswers := []
    freeIndex := 0
    bus := []
    results := [] }

end Sys2Proof.Machine
end

