-- ==== Sys2Proof/Machine/Operands.lean ====
section
/-! DEFINITION. The operands: masking and field assembly (30_encoding.md R54 to R56, R60, R61), the derived values of the pad
allocation (10_state.md R15), the slider number (R101). -/

namespace Sys2Proof.Machine

open Sys2Proof

/-- `lowN(v)` (R6, R61): `v mod 2^N`, the low N bits. Never an error (R60). -/
def lowBits (n v : Nat) : BitVec n := BitVec.ofNat n v

/-- A field placed at bit `lo` of a byte (R54). The fields of a byte do not overlap; they are combined by or. -/
def placed {n : Nat} (lo : Nat) (v : BitVec n) : Byte := v.setWidth 8 <<< lo

/-- The pad sum (R61 b): exact, before any mask. -/
def padTotal (s1 s2 s3 : Nat) : Nat := s1 + s2 + s3

/-- The one validation (R71). -/
def padsExceed (s1 s2 s3 : Nat) : Bool := decide (padTotal s1 s2 s3 > Config.padsTotal)

/-- nb_keys (R15, R56, R64): the override when one is given, otherwise 16 minus the pad sum. Used only where the sum is at
most 16 (R61 c). -/
def resolvedKeys (s1 s2 s3 : Nat) (nbkOverride : Option Nat) : Nat :=
  match nbkOverride with
  | some n => n
  | none => Config.padsTotal - padTotal s1 s2 s3

/-- nb_sliders (R15): the count of non-zero slider allocations. No operation reads it. -/
def sliderCount (s1 s2 s3 : Nat) : Nat :=
  (decide (s1 ≠ 0)).toNat + (decide (s2 ≠ 0)).toNat + (decide (s3 ≠ 0)).toNat

/-- The key-acknowledge field (R55): the operand minus one, modulo 8. -/
def acknowledgeField (kat : Nat) : BitVec 3 := lowBits 3 kat - 1#3

/-- The time auto_reset_mode names, in seconds (R14, R120): carried to the IC as a field, never counted by the block. -/
def autoResetSeconds (arm : BitVec 2) : Option Nat :=
  if arm = 0#2 then none else if arm = 1#2 then some 15 else if arm = 2#2 then some 30 else some 60

/-- Slider number `n`, 1-based, as an index 0 to 2 (R101); none outside 1..3 (D7). -/
def sliderIndex (n : Nat) : Option (Fin 3) :=
  if n = 1 then some 0 else if n = 2 then some 1 else if n = 3 then some 2 else none

/-- `SNAP.ST[i]` (R18). -/
def sliderTouch (f : StatusFrame) (i : Fin 3) : Bool :=
  match i with
  | 0 => f.st0
  | 1 => f.st1
  | 2 => f.st2

/-- `SNAP.POS[i]` (R18). -/
def sliderPosition (f : StatusFrame) (i : Fin 3) : Byte :=
  match i with
  | 0 => f.pos0
  | 1 => f.pos1
  | 2 => f.pos2

/-- `(BUTTONS >> n) & 1` (R100): total on naturals, 0 for n of 16 or more (R61 f). -/
def buttonBit (buttons : BitVec 16) (n : Nat) : Bool := (buttons >>> n) &&& 1#16 == 1#16

end Sys2Proof.Machine
end

