-- ==== Sys2Proof/Decode.lean ====
section
/-! DEFINITION. Decoding and encoding. Frames: the bit tables of 30_encoding.md R50 to R53 and the match and mask columns of
spec/opcode_table.json; host port: the select codes of R63. `decode` is total; bytes that are no frame are rejected by name. -/

namespace Sys2Proof

/-- Bits `lo + n - 1` down to `lo` of a byte. -/
def bitsOf (b : Byte) (lo n : Nat) : BitVec n := b.extractLsb' lo n

/-- The initialization frame of R50: byte 0 bits 7, 6, 4 are 1, 0, 1 and byte 3 bits 7..4 are 0 (mask 0xD00000F0, match
0x90000000). -/
def decodeConfigFrame (b0 b1 b2 b3 : Byte) : Decoded :=
  if b0 &&& 0xD0#8 ≠ 0x90#8 then .rejected .firstByte
  else if b3 &&& 0xF0#8 ≠ 0x00#8 then .rejected .reservedBits
  else .instr (.configFrame (b0.getLsbD 5) (b0.getLsbD 3) (b0.getLsbD 2) (bitsOf b0 0 2)
    (bitsOf b1 3 5) (bitsOf b1 0 3) (bitsOf b2 4 4) (bitsOf b2 0 4) (bitsOf b3 0 4))

/-- The two threshold frames of R51 and R52: byte 0 is 0b1100 and a pad selector, or 0xD0; byte 2 bits 7..4 are 0 (masks
0xF000F0 and 0xFF00F0, matches 0xC00000 and 0xD00000). -/
def decodeThresholdFrame (b0 b1 b2 : Byte) : Decoded :=
  if b0 &&& 0xF0#8 = 0xC0#8 then
    if b2 &&& 0xF0#8 ≠ 0x00#8 then .rejected .reservedBits
    else .instr (.customThresholdFrame (bitsOf b0 0 4) (bitsOf b1 4 4) (bitsOf b1 0 4) (bitsOf b2 0 4))
  else if b0 = 0xD0#8 then
    if b2 &&& 0xF0#8 ≠ 0x00#8 then .rejected .reservedBits
    else .instr (.sleepThresholdFrame (bitsOf b1 4 4) (bitsOf b1 0 4) (bitsOf b2 0 4))
  else .rejected .firstByte

/-- The status frame of R53, split by bit 7 of byte 0 into the two rows of the table. No six bytes are rejected (R59). -/
def decodeStatusBytes (b0 b1 b2 b3 b4 b5 : Byte) : Decoded :=
  if b0.getLsbD 7 then
    .instr (.statusFrame (bitsOf b0 3 4) (b0.getLsbD 2) (b0.getLsbD 1) (b0.getLsbD 0) b1 b2 b3 b4 b5)
  else .instr (.statusFrameUncalibrated (bitsOf b0 0 7) b1 b2 b3 b4 b5)

/-- A wire frame, byte 0 first: its length and first byte tell its kind (R58). -/
def decodeFrame : List Byte → Decoded
  | [b0, b1, b2] => decodeThresholdFrame b0 b1 b2
  | [b0, b1, b2, b3] => decodeConfigFrame b0 b1 b2 b3
  | [b0, b1, b2, b3, b4, b5] => decodeStatusBytes b0 b1 b2 b3 b4 b5
  | _ => .rejected .frameLength

/-- The select codes of R63. Every code has a meaning: 6 and 7 are ILLEGAL_OP. -/
def decodeHost (p : HostPort) : Instr :=
  if p.op = 0#3 then .configure p.a p.b p.c p.f0 p.f1 p.f2 p.mode2 p.d p.override
  else if p.op = 1#3 then .setCustomThreshold p.a p.b p.c p.d
  else if p.op = 2#3 then .setSleepThreshold p.a p.b p.c
  else if p.op = 3#3 then .read
  else if p.op = 4#3 then .button p.a
  else if p.op = 5#3 then .slider p.a
  else .illegalOp (p.op.extractLsb' 0 1)

/-- The decoder, total on whatever is presented. -/
def decode : Presented → Decoded
  | .host p => .instr (decodeHost p)
  | .frame bytes => decodeFrame bytes

/-- A host port that selects `op` with every operand line at zero and no override. -/
def HostPort.select (op : BitVec 3) : HostPort :=
  { op := op, a := 0, b := 0, c := 0, d := 0, f0 := false, f1 := false, f2 := false, mode2 := 0#2, override := none }

/-- The encoder, written from the bit tables of R50 to R53 (each byte drawn bit 7 first) and the codes of R63. -/
def encode : Instr → Presented
  | .configFrame skm psm dt arm nbk katm1 s2p s1p s3p =>
      .frame [1#1 ++ 0#1 ++ flagBit skm ++ 1#1 ++ flagBit psm ++ flagBit dt ++ arm, nbk ++ katm1, s2p ++ s1p, 0#4 ++ s3p]
  | .customThresholdFrame pad med low high => .frame [0b1100#4 ++ pad, med ++ low, 0#4 ++ high]
  | .sleepThresholdFrame med low high => .frame [0b11010000#8, med ++ low, 0#4 ++ high]
  | .statusFrame ignored st2 st1 st0 buttonsLow buttonsHigh pos0 pos1 pos2 =>
      .frame [1#1 ++ ignored ++ flagBit st2 ++ flagBit st1 ++ flagBit st0, buttonsLow, buttonsHigh, pos0, pos1, pos2]
  | .statusFrameUncalibrated rest0 b1 b2 b3 b4 b5 => .frame [0#1 ++ rest0, b1, b2, b3, b4, b5]
  | .configure s1 s2 s3 skm psm dt arm kat nbkOverride =>
      .host { op := 0#3, a := s1, b := s2, c := s3, d := kat, f0 := skm, f1 := psm, f2 := dt, mode2 := arm,
              override := nbkOverride }
  | .setCustomThreshold pad low med high =>
      .host { HostPort.select 1#3 with a := pad, b := low, c := med, d := high }
  | .setSleepThreshold low med high => .host { HostPort.select 2#3 with a := low, b := med, c := high }
  | .read => .host (HostPort.select 3#3)
  | .button n => .host { HostPort.select 4#3 with a := n }
  | .slider n => .host { HostPort.select 5#3 with a := n }
  | .illegalOp x => .host (HostPort.select (0b11#2 ++ x))

/-- The bytes of a frame that the table reads as one big-endian number: byte 0 holds the top bits. -/
def bigEndianBytes : Nat → Nat → List Byte
  | 0, _ => []
  | k + 1, w => BitVec.ofNat 8 (w >>> (8 * k)) :: bigEndianBytes k w

/-- What a word of spec/opcode_table.json presents: a row of at most 8 bits is a host select code on OP[2:0] with every operand
line at zero (R63), a wider row a frame read as one big-endian number. DEDUCED (notes/assumptions/12.md), safe. -/
def presentedOfTableWord (nbits w : Nat) : Presented :=
  if nbits ≤ 8 then .host (HostPort.select (BitVec.ofNat 3 w)) else .frame (bigEndianBytes (nbits / 8) w)

/-- The instruction the decoder reads from a word numbered as the table numbers it. -/
def decodeTableWord (nbits w : Nat) : Option Instr :=
  match decode (presentedOfTableWord nbits w) with
  | .instr i => some i
  | .rejected _ => none

end Sys2Proof
end

