-- ==== Sys2Proof/Machine/Ops.lean ====
section
/-! DEFINITION. The named operations over the state: ending an operation with a value or an error (60_exceptions.md R115), the
admission checks (10_state.md R24), the bus primitives (20_memory.md R31 to R33), the state writes (R14, R19), reset (R130),
and fetching what the host presents (R45). -/

namespace Sys2Proof.Machine

open Sys2Proof

/-- One step's outcome. -/
abbrev StepOutcome := Host.Outcome State Fault Refusal

/-- `return v` (R6): the operation ends and returns `v` to the host. -/
def returnValue (v : Value) (s : State) : State :=
  { s with results := .ok v :: s.results }

/-- `raise e` (R6, R115): the operation ends and returns the error to the host in place of the result; no state is written, no
handler is entered and nothing is saved, so there is no return from it either (R117). This is how every error is taken. -/
def raiseError (e : OpError) (s : State) : State :=
  { s with results := .error e :: s.results }

/-- The admission check of every operation but CONFIGURE (R24, R114; D4). -/
def whenConfigured (s : State) (k : StepOutcome) : StepOutcome :=
  match s.mode with
  | .unconfigured => .next (raiseError .notConfigured s)
  | .configured => k

/-- The admission check of CONFIGURE (R24, R114; D5). -/
def whenUnconfigured (s : State) (k : StepOutcome) : StepOutcome :=
  match s.mode with
  | .unconfigured => k
  | .configured => .next (raiseError .alreadyConfigured s)

/-- The snapshot check of the accessors (R100, R101, R102; D6). -/
def withSnapshot (s : State) (k : StatusFrame → StepOutcome) : StepOutcome :=
  match s.snap with
  | none => .next (raiseError .noSnapshot s)
  | some f => k f

/-- The byte the transport gets as `address` (R31): it carries the 7-bit value, so its bit 7 is 0. -/
def addressByte (a : DeviceAddress) : Byte := a.setWidth 8

/-- What one call of a bus primitive gives: an outcome and the state after the call, or no return. -/
inductive BusReply (α : Type) where
  | returned (outcome : α) (s : State)
  | never

/-- `MemWrite(addr, n, v)` (R32): one call of the transport's `write` with the whole payload. Its outcome is the transport's
next answer, or a free value where none is listed (D21). -/
def memWrite (address : DeviceAddress) (payload : List Byte) (s : State) : BusReply WriteOutcome :=
  match s.writeAnswers with
  | [] =>
      .returned (Config.freeWriteOutcome s.freeIndex)
        { s with freeIndex := s.freeIndex + 1, bus := .write (addressByte address) payload :: s.bus }
  | .returns o :: rest =>
      .returned o { s with writeAnswers := rest, bus := .write (addressByte address) payload :: s.bus }
  | .never :: _ => .never

/-- `MemRead(addr, n)` (R33): one call of the transport's `read`. Its outcome is the transport's next answer, or a free value
where none is listed (D21). -/
def memRead (address : DeviceAddress) (length : Nat) (s : State) : BusReply ReadOutcome :=
  match s.readAnswers with
  | [] =>
      .returned (Config.freeReadOutcome s.freeIndex)
        { s with freeIndex := s.freeIndex + 1, bus := .read (addressByte address) length :: s.bus }
  | .returns o :: rest =>
      .returned o { s with readAnswers := rest, bus := .read (addressByte address) length :: s.bus }
  | .never :: _ => .never

/-- Go on after a bus call with its outcome; a call that never returns is the stuck case (R44, R139). -/
def afterCall {α : Type} (r : BusReply α) (k : α → State → State) : StepOutcome :=
  match r with
  | .returned o s => .next (k o s)
  | .never => .fault .busCallNeverReturns

/-- The state write of a successful CONFIGURE (R72): CFG and MODE. -/
def enterConfigured (c : DeviceConfig) (s : State) : State :=
  { s with cfg := some c, mode := .configured }

/-- The state write of a successful READ (R19, R92): SNAP, whole. -/
def storeSnapshot (f : StatusFrame) (s : State) : State :=
  { s with snap := some f }

/-- Send one frame and end the operation (R81, R83): `()` when the write succeeds, `TransportError` as received when it fails
(R46). -/
def sendFrame (payload : List Byte) (s : State) : StepOutcome :=
  afterCall (memWrite s.deviceAddress payload s) fun o s' =>
    match o with
    | .success => returnValue .unit s'
    | .transportError cause => raiseError (.transportError cause) s'

/-- End the operation with what a pure function answered: its value, or its error (R70, R90). -/
def deliver (r : Except OpError Value) (s : State) : State :=
  match r with
  | .ok v => returnValue v s
  | .error e => raiseError e s

/-- Reset (R130): the creation of a fresh block with its device address. It issues no bus transaction (R131); the host's moves,
the transport's answers and the observations are not the block's and stay (notes/assumptions/9.md). -/
def reinstantiate (address : DeviceAddress) (s : State) : State :=
  { s with mode := .unconfigured, cfg := none, snap := none, deviceAddress := address }

/-- What the next move of the host is. -/
inductive Fetched where
  /-- The host makes no move (R141). -/
  | idle
  | reset (address : DeviceAddress) (s : State)
  | run (i : Instr) (s : State)
  | rejected (why : DecodeError)

/-- Take the host's next move from the script and decode it (R45). -/
def fetch (s : State) : Fetched :=
  match s.script with
  | [] => .idle
  | .reset address :: rest => .reset address { s with script := rest }
  | .present p :: rest =>
      match decode p with
      | .instr i => .run i { s with script := rest }
      | .rejected why => .rejected why

/-- Make `p` the next thing the host presents. -/
def presentNext (p : Presented) (s : State) : State :=
  { s with script := .present p :: s.script }

end Sys2Proof.Machine
end

