-- ==== Sys2Proof/Machine/Accessors.lean ====
section
/-! DEFINITION. The snapshot accessors BUTTON and SLIDER (43_accessors.md R100 to R103). -/

namespace Sys2Proof.Machine

open Sys2Proof

/-- BUTTON (R100): `NotConfigured`, then `NoSnapshot` (R114). -/
def execButton (n : Nat) (s : State) : StepOutcome :=
  whenConfigured s <| withSnapshot s fun f => .next (returnValue (.bit (buttonBit f.buttons n)) s)

/-- SLIDER (R101): `NotConfigured`, then `OperandFault`, then `NoSnapshot` (R114). -/
def execSlider (n : Nat) (s : State) : StepOutcome :=
  whenConfigured s <|
    match sliderIndex n with
    | none => .next (raiseError .operandFault s)
    | some i => withSnapshot s fun f => .next (returnValue (.touch (sliderTouch f i) (sliderPosition f i)) s)

end Sys2Proof.Machine
end

