-- ==== Sys2Proof/Machine/ConfigFrame.lean ====
section
/-! DEFINITION. The ConfigFrame Builder and CONFIGURE (40_config_frame.md R70 to R75). -/

namespace Sys2Proof.Machine

open Sys2Proof

/-- Byte 0 of the initialization frame (R50, R70). -/
def configByte0 (bit6 : BitVec 1) (skm psm dt : Bool) (arm : BitVec 2) : Byte :=
  0x80#8 ||| placed 6 bit6 ||| placed 5 (flagBit skm) ||| 0x10#8 ||| placed 3 (flagBit psm) ||| placed 2 (flagBit dt)
    ||| placed 0 arm

/-- `EncodeConfig` (R70) with CFG_B0_BIT6 as a parameter: the four bytes and the resolved nb_keys, or `ConfigError` when the
pad sum exceeds 16 (R71). -/
def encodeConfigWith (bit6 : BitVec 1) (s1 s2 s3 : Nat) (skm psm dt : Bool) (arm : BitVec 2) (kat : Nat)
    (nbkOverride : Option Nat) : Except OpError (List Byte × Nat) :=
  if padsExceed s1 s2 s3 then .error .configError
  else
    let nbk := resolvedKeys s1 s2 s3 nbkOverride
    .ok ([configByte0 bit6 skm psm dt arm,
          placed 3 (lowBits 5 nbk) ||| placed 0 (acknowledgeField kat),
          placed 4 (lowBits 4 s2) ||| placed 0 (lowBits 4 s1),
          placed 0 (lowBits 4 s3)], nbk)

/-- `EncodeConfig` (R70) at the spec's value of CFG_B0_BIT6. -/
def encodeConfig (s1 s2 s3 : Nat) (skm psm dt : Bool) (arm : BitVec 2) (kat : Nat) (nbkOverride : Option Nat) :
    Except OpError (List Byte × Nat) :=
  encodeConfigWith Config.configByte0Bit6 s1 s2 s3 skm psm dt arm kat nbkOverride

/-- CONFIG_FRAME (R50, R70): the ConfigFrame Builder on the operands this frame carries, `kat` being the field plus one and the
key count given explicitly. It reads no state and writes none; the value is the frame. -/
def execConfigFrame (skm psm dt : Bool) (arm : BitVec 2) (nbk : BitVec 5) (katm1 : BitVec 3) (s2p s1p s3p : BitVec 4)
    (s : State) : StepOutcome :=
  .next (deliver ((encodeConfig s1p.toNat s2p.toNat s3p.toNat skm psm dt arm (katm1.toNat + 1) (some nbk.toNat)).map
    fun r => .frame r.1) s)

/-- What follows the bus write of CONFIGURE (R72): on success CFG and MODE are written, on failure nothing is. -/
def finishConfigure (c : DeviceConfig) (o : WriteOutcome) (s : State) : State :=
  match o with
  | .success => returnValue .unit (enterConfigured c s)
  | .transportError cause => raiseError (.transportError cause) s

/-- CONFIGURE (R72 to R75): the order of tests is `AlreadyConfigured`, `ConfigError`, `TransportError` (R114). -/
def execConfigure (s1 s2 s3 : Nat) (skm psm dt : Bool) (arm : BitVec 2) (kat : Nat) (nbkOverride : Option Nat) (s : State) :
    StepOutcome :=
  whenUnconfigured s <|
    match encodeConfig s1 s2 s3 skm psm dt arm kat nbkOverride with
    | .error e => .next (raiseError e s)
    | .ok (frame, nbk) =>
        afterCall (memWrite s.deviceAddress frame s)
          (finishConfigure { s1p := s1, s2p := s2, s3p := s3, skm := skm, psm := psm, dt := dt, arm := arm, kat := kat, nbk := nbk })

end Sys2Proof.Machine
end

