-- ==== Sys2Proof/Machine/IllegalOp.lean ====
section
/-! DEFINITION. The reserved select codes 6 and 7 of the coded host port (30_encoding.md R63, 60_exceptions.md R111, R114). -/

namespace Sys2Proof.Machine

open Sys2Proof

/-- ILLEGAL_OP (R63): `IllegalOp`, before every other test (R114); no state change, no bus traffic. -/
def execIllegalOp (_x : BitVec 1) (s : State) : StepOutcome :=
  .next (raiseError .illegalOp s)

end Sys2Proof.Machine
end

