-- ==== Sys2Proof/Machine/Flags.lean ====
section
/-! DEFINITION. The flags of the block (10_state.md R20: CALV and ST[0..2], taken from status byte 0 by R90), and the numbering
and kinds of results (30_encoding.md R63, 60_exceptions.md R111). -/

namespace Sys2Proof.Machine

open Sys2Proof

/-- `calibration_valid = (byte0 & 0x80) != 0` (R90). -/
def calibrationValid (b0 : Byte) : Bool := b0 &&& 0x80#8 != 0x00#8

/-- `slider_touch[i] = (byte0 >> i) & 1` (R90). -/
def touchFlag (b0 : Byte) (i : Nat) : Bool := (b0 >>> i) &&& 1#8 == 1#8

/-- RES[3:0] of an error (R63). The names are normative, the numbers the spec's own (R112). -/
def errorCode : OpError → BitVec 4
  | .configError => 1#4
  | .transportError _ => 2#4
  | .calibrationError => 3#4
  | .notConfigured => 4#4
  | .alreadyConfigured => 5#4
  | .noSnapshot => 6#4
  | .operandFault => 7#4
  | .frameLengthFault => 8#4
  | .illegalOp => 9#4

/-- RES[3:0] of a result (R63): 0 on success. -/
def resultCode : Result → BitVec 4
  | .ok _ => 0#4
  | .error e => errorCode e

/-- Whether an error is one of the three of the source (R110); the other six are the spec's refusals and faults (R111). -/
def isSourceError : OpError → Bool
  | .configError => true
  | .transportError _ => true
  | .calibrationError => true
  | .notConfigured => false
  | .alreadyConfigured => false
  | .noSnapshot => false
  | .operandFault => false
  | .frameLengthFault => false
  | .illegalOp => false

end Sys2Proof.Machine
end

