-- ==== Sys2Proof/Machine/StatusFrame.lean ====
section
/-! DEFINITION. The StatusFrame Decoder and READ (42_status_frame.md R90 to R93). -/

namespace Sys2Proof.Machine

open Sys2Proof

/-- The button mask (R34 c, R90): `byte1 | (byte2 << 8)`. -/
def buttonMask (b1 b2 : Byte) : BitVec 16 := b1.setWidth 16 ||| b2.setWidth 16 <<< 8

/-- `DecodeStatus` (R90) on exactly six bytes; `CalibrationError` when bit 7 of byte 0 is clear (R91). -/
def decodeStatus (b0 b1 b2 b3 b4 b5 : Byte) : Except OpError StatusFrame :=
  if calibrationValid b0 then
    .ok { calv := true, st0 := touchFlag b0 0, st1 := touchFlag b0 1, st2 := touchFlag b0 2,
          buttons := buttonMask b1 b2, pos0 := b3, pos1 := b4, pos2 := b5 }
  else .error .calibrationError

/-- The bytes a bus read gave: six are decoded, any other count is `FrameLengthFault` (R113, R114). -/
def decodeReceived (bytes : List Byte) : Except OpError StatusFrame :=
  match bytes with
  | [b0, b1, b2, b3, b4, b5] => decodeStatus b0 b1 b2 b3 b4 b5
  | _ => .error .frameLengthFault

/-- STATUS_FRAME (R53, R90): the decoder on a frame whose calibration bit is set. It reads no state and writes none; the value
is the StatusFrame. (READ, R92, is what stores one.) -/
def execStatusFrame (ignored : BitVec 4) (st2 st1 st0 : Bool) (buttonsLow buttonsHigh pos0 pos1 pos2 : Byte) (s : State) :
    StepOutcome :=
  .next (deliver ((decodeStatus (1#1 ++ ignored ++ flagBit st2 ++ flagBit st1 ++ flagBit st0) buttonsLow buttonsHigh
    pos0 pos1 pos2).map .status) s)

/-- STATUS_FRAME_UNCALIBRATED (R91): the decoder on a frame whose calibration bit is clear. No StatusFrame is produced. -/
def execStatusFrameUncalibrated (rest0 : BitVec 7) (b1 b2 b3 b4 b5 : Byte) (s : State) : StepOutcome :=
  .next (deliver ((decodeStatus (0#1 ++ rest0) b1 b2 b3 b4 b5).map .status) s)

/-- What follows the bus read of READ (R92): on a full success SNAP is replaced, otherwise nothing is written. -/
def finishRead (o : ReadOutcome) (s : State) : State :=
  match o with
  | .transportError cause => raiseError (.transportError cause) s
  | .bytes received =>
      match decodeReceived received with
      | .ok f => returnValue .unit (storeSnapshot f s)
      | .error e => raiseError e s

/-- READ (R92, R93): the order of tests is `NotConfigured`, `TransportError`, `FrameLengthFault`, `CalibrationError` (R114). -/
def execRead (s : State) : StepOutcome :=
  whenConfigured s (afterCall (memRead s.deviceAddress Config.statusLength s) finishRead)

end Sys2Proof.Machine
end

