-- ==== Sys2Proof/Machine/ThresholdFrame.lean ====
section
/-! DEFINITION. The ThresholdFrame Builder, SET_CUSTOM_THRESHOLD and SET_SLEEP_THRESHOLD (41_threshold_frame.md R80 to R84). -/

namespace Sys2Proof.Machine

open Sys2Proof

/-- Byte 1 of both threshold frames (R51, R52): Medium in the high nibble, Low in the low one. -/
def levelsByte (low med : Nat) : Byte := placed 4 (lowBits 4 med) ||| placed 0 (lowBits 4 low)

/-- `EncodeCustomThreshold` (R80). -/
def encodeCustomThreshold (pad low med high : Nat) : List Byte :=
  [0xC0#8 ||| placed 0 (lowBits 4 pad), levelsByte low med, placed 0 (lowBits 4 high)]

/-- `EncodeSleepThreshold` (R82). -/
def encodeSleepThreshold (low med high : Nat) : List Byte :=
  [0xD0#8, levelsByte low med, placed 0 (lowBits 4 high)]

/-- CUSTOM_THRESHOLD_FRAME (R51, R80): the builder on the operands this frame carries. No state is read or written. -/
def execCustomThresholdFrame (pad med low high : BitVec 4) (s : State) : StepOutcome :=
  .next (returnValue (.frame (encodeCustomThreshold pad.toNat low.toNat med.toNat high.toNat)) s)

/-- SLEEP_THRESHOLD_FRAME (R52, R82): the builder on the operands this frame carries. No state is read or written. -/
def execSleepThresholdFrame (med low high : BitVec 4) (s : State) : StepOutcome :=
  .next (returnValue (.frame (encodeSleepThreshold low.toNat med.toNat high.toNat)) s)

/-- SET_CUSTOM_THRESHOLD (R81, R84). -/
def execSetCustomThreshold (pad low med high : Nat) (s : State) : StepOutcome :=
  whenConfigured s (sendFrame (encodeCustomThreshold pad low med high) s)

/-- SET_SLEEP_THRESHOLD (R83, R84). -/
def execSetSleepThreshold (low med high : Nat) (s : State) : StepOutcome :=
  whenConfigured s (sendFrame (encodeSleepThreshold low med high) s)

end Sys2Proof.Machine
end

