-- ==== Sys2Proof/Machine/Dispatch.lean ====
section
/-! DEFINITION. One arm per constructor of Instr. -/

namespace Sys2Proof.Machine

open Sys2Proof

def exec (i : Instr) (s : State) : Host.Outcome State Fault Refusal :=
  match i with
  | .configFrame skm psm dt arm nbk katm1 s2p s1p s3p => Sys2Proof.Machine.execConfigFrame skm psm dt arm nbk katm1 s2p s1p s3p s
  | .customThresholdFrame pad med low high => Sys2Proof.Machine.execCustomThresholdFrame pad med low high s
  | .sleepThresholdFrame med low high => Sys2Proof.Machine.execSleepThresholdFrame med low high s
  | .statusFrame ignored st2 st1 st0 buttonsLow buttonsHigh pos0 pos1 pos2 => Sys2Proof.Machine.execStatusFrame ignored st2 st1 st0 buttonsLow buttonsHigh pos0 pos1 pos2 s
  | .statusFrameUncalibrated rest0 b1 b2 b3 b4 b5 => Sys2Proof.Machine.execStatusFrameUncalibrated rest0 b1 b2 b3 b4 b5 s
  | .configure s1 s2 s3 skm psm dt arm kat nbkOverride => Sys2Proof.Machine.execConfigure s1 s2 s3 skm psm dt arm kat nbkOverride s
  | .setCustomThreshold pad low med high => Sys2Proof.Machine.execSetCustomThreshold pad low med high s
  | .setSleepThreshold low med high => Sys2Proof.Machine.execSetSleepThreshold low med high s
  | .read => Sys2Proof.Machine.execRead s
  | .button n => Sys2Proof.Machine.execButton n s
  | .slider n => Sys2Proof.Machine.execSlider n s
  | .illegalOp x => Sys2Proof.Machine.execIllegalOp x s

end Sys2Proof.Machine
end

