-- ==== Sys2Proof/Machine/Step.lean ====
section
/-! DEFINITION. One step: the host's next move with everything the block does in answer to it (00_scope.md R5, 20_memory.md R40,
R45), and placing a word of the opcode table as that move. -/

namespace Sys2Proof.Machine

open Sys2Proof

/-- One step. When the host makes no move the block stays as it is, ready for one (R141). -/
def step (s : State) : Host.Outcome State Fault Refusal :=
  match fetch s with
  | .idle => .next s
  | .reset address s' => .next (reinstantiate address s')
  | .run i s' => exec i s'
  | .rejected why => .refused (.undecodable why)

/-- The state with a word of the opcode table as what the host presents next. -/
def State.withFetchWord (s : State) (nbits w : Nat) : State :=
  presentNext (presentedOfTableWord nbits w) s

end Sys2Proof.Machine
end

