-- ==== Sys2Proof/Safety.lean ====
section
/-! DEFINITION. The terms claims are stated in: what the transport's next answer is, the frames as the bit tables draw them
(30_encoding.md R50 to R52), the order of tests (60_exceptions.md R114), and the invariants. Nothing here is used by the model. -/

namespace Sys2Proof.Machine

open Sys2Proof

/-- The outcome the next bus write meets: the listed answer, or the free one; none when it never returns. -/
def nextWriteOutcome (s : State) : Option WriteOutcome :=
  match s.writeAnswers with
  | [] => some (Config.freeWriteOutcome s.freeIndex)
  | .returns o :: _ => some o
  | .never :: _ => none

/-- The outcome the next bus read meets: the listed answer, or the free one; none when it never returns. -/
def nextReadOutcome (s : State) : Option ReadOutcome :=
  match s.readAnswers with
  | [] => some (Config.freeReadOutcome s.freeIndex)
  | .returns o :: _ => some o
  | .never :: _ => none

/-- Every bus call an operation can make now returns: the one liveness premise (R140). -/
def busReturns (s : State) : Bool := (nextWriteOutcome s).isSome && (nextReadOutcome s).isSome

/-- The state once one bus write of `payload` has returned: its answer is used up and the transaction is observed. -/
def written (payload : List Byte) (s : State) : State :=
  match s.writeAnswers with
  | [] => { s with freeIndex := s.freeIndex + 1, bus := .write (0#1 ++ s.deviceAddress) payload :: s.bus }
  | _ :: rest => { s with writeAnswers := rest, bus := .write (0#1 ++ s.deviceAddress) payload :: s.bus }

/-- The state once one bus read of 6 bytes has returned: its answer is used up and the transaction is observed. -/
def readDone (s : State) : State :=
  match s.readAnswers with
  | [] => { s with freeIndex := s.freeIndex + 1, bus := .read (0#1 ++ s.deviceAddress) 6 :: s.bus }
  | _ :: rest => { s with readAnswers := rest, bus := .read (0#1 ++ s.deviceAddress) 6 :: s.bus }

/-- The state with one more result returned to the host and nothing else changed. -/
def answered (r : Result) (s : State) : State := { s with results := r :: s.results }

/-- The initialization frame as R50 draws it, byte 0 first, each byte bit 7 first, with the fields of R54 to R56. -/
def drawnConfigFrame (s1 s2 s3 : Nat) (skm psm dt : Bool) (arm : BitVec 2) (kat nbk : Nat) : List Byte :=
  [1#1 ++ 0#1 ++ BitVec.ofBool skm ++ 1#1 ++ BitVec.ofBool psm ++ BitVec.ofBool dt ++ arm,
   BitVec.ofNat 5 (nbk % 32) ++ BitVec.ofNat 3 ((kat + 7) % 8),
   BitVec.ofNat 4 (s2 % 16) ++ BitVec.ofNat 4 (s1 % 16),
   0#4 ++ BitVec.ofNat 4 (s3 % 16)]

/-- The custom threshold frame as R51 draws it. -/
def drawnCustomThresholdFrame (pad low med high : Nat) : List Byte :=
  [0b1100#4 ++ BitVec.ofNat 4 (pad % 16), BitVec.ofNat 4 (med % 16) ++ BitVec.ofNat 4 (low % 16),
   0#4 ++ BitVec.ofNat 4 (high % 16)]

/-- The sleep threshold frame as R52 draws it. -/
def drawnSleepThresholdFrame (low med high : Nat) : List Byte :=
  [0b1101#4 ++ 0#4, BitVec.ofNat 4 (med % 16) ++ BitVec.ofNat 4 (low % 16), 0#4 ++ BitVec.ofNat 4 (high % 16)]

/-- The StatusFrame of six bytes as R53 draws them: CALV is 1, ST[i] is bit i of byte 0, byte 1 is the low half of the mask. -/
def drawnStatus (b0 b1 b2 b3 b4 b5 : Byte) : StatusFrame :=
  { calv := true, st0 := b0.getLsbD 0, st1 := b0.getLsbD 1, st2 := b0.getLsbD 2, buttons := b2 ++ b1,
    pos0 := b3, pos1 := b4, pos2 := b5 }

/-- The constructors of the seven rows of the host port. -/
def isHostOperation : Instr → Bool
  | .configure _ _ _ _ _ _ _ _ _ => true
  | .setCustomThreshold _ _ _ _ => true
  | .setSleepThreshold _ _ _ => true
  | .read => true
  | .button _ => true
  | .slider _ => true
  | .illegalOp _ => true
  | .configFrame _ _ _ _ _ _ _ _ _ => false
  | .customThresholdFrame _ _ _ _ => false
  | .sleepThresholdFrame _ _ _ => false
  | .statusFrame _ _ _ _ _ _ _ _ _ => false
  | .statusFrameUncalibrated _ _ _ _ _ _ => false

/-- CONFIGURE with any operands. -/
def isConfigure : Instr → Bool
  | .configure _ _ _ _ _ _ _ _ _ => true
  | _ => false

/-- The two accessors. -/
def isAccessor : Instr → Bool
  | .button _ => true
  | .slider _ => true
  | _ => false

/-- The five operations that are refused while Unconfigured (R24). -/
def needsConfigured : Instr → Bool
  | .setCustomThreshold _ _ _ _ => true
  | .setSleepThreshold _ _ _ => true
  | .read => true
  | .button _ => true
  | .slider _ => true
  | _ => false

/-- The error of a bus write that fails. -/
def writeError (s : State) : Option OpError :=
  match nextWriteOutcome s with
  | some (.transportError cause) => some (.transportError cause)
  | some .success => none
  | none => none

/-- The error of a bus read and the decode of what it gave, in the order of R114. -/
def readError (s : State) : Option OpError :=
  match nextReadOutcome s with
  | some (.transportError cause) => some (.transportError cause)
  | some (.bytes received) =>
      if received.length ≠ 6 then some .frameLengthFault
      else if received.head?.any (fun b0 => b0.getLsbD 7) then none
      else some .calibrationError
  | none => none

/-- The table of R114: the error a host operation reports, the first test that applies. -/
def reportedError (i : Instr) (s : State) : Option OpError :=
  match i with
  | .illegalOp _ => some .illegalOp
  | .configure s1 s2 s3 _ _ _ _ _ _ =>
      if s.mode = .configured then some .alreadyConfigured
      else if s1 + s2 + s3 > 16 then some .configError
      else writeError s
  | .setCustomThreshold _ _ _ _ => if s.mode = .unconfigured then some .notConfigured else writeError s
  | .setSleepThreshold _ _ _ => if s.mode = .unconfigured then some .notConfigured else writeError s
  | .read => if s.mode = .unconfigured then some .notConfigured else readError s
  | .button _ =>
      if s.mode = .unconfigured then some .notConfigured
      else if s.snap = none then some .noSnapshot
      else none
  | .slider n =>
      if s.mode = .unconfigured then some .notConfigured
      else if n < 1 ∨ n > 3 then some .operandFault
      else if s.snap = none then some .noSnapshot
      else none
  | _ => none

/-- The invariant of the Device Facade: CFG is held exactly when MODE is Configured (R12, R72), a held CFG has a pad sum of at
most 16 (R14), a held SNAP has CALV 1 (R18) and is held only when Configured (R24, R92). -/
def facadeInv (s : State) : Prop :=
  (s.mode = .configured ↔ s.cfg.isSome = true) ∧
  (∀ c, s.cfg = some c → c.s1p + c.s2p + c.s3p ≤ 16) ∧
  (∀ f, s.snap = some f → f.calv = true ∧ s.mode = .configured)

/-- A payload has the length, the first byte and the reserved bits of a frame the block emits (R57, R58, R59). -/
def emittable : List Byte → Bool
  | [b0, _, _, b3] =>
      (decide (0x90 ≤ b0.toNat ∧ b0.toNat ≤ 0x9F) || decide (0xB0 ≤ b0.toNat ∧ b0.toNat ≤ 0xBF)) && decide (b3.toNat < 16)
  | [b0, _, b2] => (decide (0xC0 ≤ b0.toNat ∧ b0.toNat ≤ 0xCF) || decide (b0 = 0xD0#8)) && decide (b2.toNat < 16)
  | _ => false

/-- A transaction the block may issue: an address byte with bit 7 clear (R31), an emittable frame, or a read of 6 bytes (R35). -/
def legalTransaction : Transaction → Bool
  | .write address payload => !address.getLsbD 7 && emittable payload
  | .read address length => !address.getLsbD 7 && decide (length = 6)

/-- Every transaction observed so far is one the block may issue. -/
def busLegal (s : State) : Prop := ∀ x ∈ s.bus, legalTransaction x = true

end Sys2Proof.Machine
end

