-- ==== Sys2Proof/Certificates/Slice0/Obligations.lean ====
section
/-! DEFINITION. The statements for the provers. Each docstring names the rule of spec/ it formalises; where a clause rests on a
decision the spec marks as its own (92_eei_decisions.md) or on a choice of the model, the docstring names it. -/

open Sys2Proof Sys2Proof.Machine

/-! Encoding -/

/-- Words written out from the spec's encodings decode to their rows: vectors T9, S3, S4, S5 and T58 of 95_test_vectors.md and
the select codes of R63. The numbering of a frame as one big-endian number is opcode_table.json's own (notes/assumptions/12.md);
operand lines at zero are the model's choice (notes/assumptions/8.md). -/
def Obligations.FrameWordsDecodeToTheirRows : Prop :=
  decodeTableWord 32 0xB6224305 = some (.configFrame true false true 2#2 4#5 2#3 4#4 3#4 5#4) ∧
  decodeTableWord 24 0xC5A307 = some (.customThresholdFrame 5#4 10#4 3#4 7#4) ∧
  decodeTableWord 24 0xD0F001 = some (.sleepThresholdFrame 15#4 0#4 1#4) ∧
  decodeTableWord 48 0x8534120A141E = some (.statusFrame 0#4 true false true 0x34#8 0x12#8 10#8 20#8 30#8) ∧
  decodeTableWord 48 0x0534120A141E = some (.statusFrameUncalibrated 5#7 0x34#8 0x12#8 10#8 20#8 30#8) ∧
  decodeTableWord 8 0 = some (.configure 0 0 0 false false false 0#2 0 none) ∧
  decodeTableWord 8 3 = some .read ∧
  decodeTableWord 8 4 = some (.button 0) ∧
  decodeTableWord 8 7 = some (.illegalOp 1#1)

/-- Decoding what the encoder makes of an instruction gives that instruction back, for every instruction and every value of its
operands (R50 to R53, R62, R63). -/
def Obligations.DecodeOfEncodeIsTheInstruction : Prop :=
  ∀ i : Instr, decode (encode i) = .instr i

/-- The bytes of a frame that decodes are the encoding of what they decode to, so no two frames mean one instruction and no bit
of a frame is dropped (R50 to R53, R57). -/
def Obligations.DecodedFrameEncodesBack : Prop :=
  ∀ (bytes : List Byte) (i : Instr), decode (.frame bytes) = .instr i → encode i = .frame bytes

/-- The select codes and the result codes of R63, and `IllegalOp` on codes 6 and 7. The numbers are the spec's own choice (D10). -/
def Obligations.SelectAndResultCodes : Prop :=
  (∀ p : HostPort,
    (p.op = 0#3 → ∃ s1 s2 s3 skm psm dt arm kat o, decode (.host p) = .instr (.configure s1 s2 s3 skm psm dt arm kat o)) ∧
    (p.op = 1#3 → ∃ pad low med high, decode (.host p) = .instr (.setCustomThreshold pad low med high)) ∧
    (p.op = 2#3 → ∃ low med high, decode (.host p) = .instr (.setSleepThreshold low med high)) ∧
    (p.op = 3#3 → decode (.host p) = .instr .read) ∧
    (p.op = 4#3 → ∃ n, decode (.host p) = .instr (.button n)) ∧
    (p.op = 5#3 → ∃ n, decode (.host p) = .instr (.slider n)) ∧
    ((p.op = 6#3 ∨ p.op = 7#3) → ∃ x, decode (.host p) = .instr (.illegalOp x) ∧
      ∀ s : State, exec (.illegalOp x) s = .next (answered (.error .illegalOp) s))) ∧
  (∀ v : Value, resultCode (.ok v) = 0#4) ∧
  resultCode (.error .configError) = 1#4 ∧
  (∀ cause, resultCode (.error (.transportError cause)) = 2#4) ∧
  resultCode (.error .calibrationError) = 3#4 ∧
  resultCode (.error .notConfigured) = 4#4 ∧
  resultCode (.error .alreadyConfigured) = 5#4 ∧
  resultCode (.error .noSnapshot) = 6#4 ∧
  resultCode (.error .operandFault) = 7#4 ∧
  resultCode (.error .frameLengthFault) = 8#4 ∧
  resultCode (.error .illegalOp) = 9#4 ∧
  (∀ r : Result, (resultCode r).toNat ≤ 9)

/-! The step -/

/-- A step at a state whose next presented thing decodes runs exactly the decoded instruction, with that move taken from the
script (R5, R40). -/
def Obligations.StepRunsTheDecodedInstruction : Prop :=
  ∀ (s : State) (p : Presented) (rest : List HostMove) (i : Instr),
    s.script = .present p :: rest → decode p = .instr i → step s = exec i { s with script := rest }

/-- A word of the opcode table placed as the next move is run by the very next step (notes/assumptions/4.md and 12.md). -/
def Obligations.PlacedWordRunsNext : Prop :=
  ∀ (s : State) (nbits w : Nat) (i : Instr),
    decodeTableWord nbits w = some i → step (s.withFetchWord nbits w) = exec i s

/-- Without a move of the host a step changes nothing (R141), and a frame that does not decode is refused by name. Both are the
model's choice (notes/assumptions/4.md and 14.md). -/
def Obligations.StepWithoutAnInstruction : Prop :=
  (∀ s : State, s.script = [] → step s = .next s) ∧
  (∀ (s : State) (bytes : List Byte) (rest : List HostMove) (why : DecodeError),
    s.script = .present (.frame bytes) :: rest → decode (.frame bytes) = .rejected why → step s = .refused (.undecodable why))

/-- Reset as a move of the host (R130, R131): MODE, CFG, SNAP and DEV_ADDR take their reset values and no bus transaction is
issued. That reset is the creation of a fresh block is the spec's decision D16; what it leaves alone is notes/assumptions/9.md. -/
def Obligations.ResetMoveGivesAFreshBlock : Prop :=
  ∀ (s : State) (a : DeviceAddress) (rest : List HostMove), s.script = .reset a :: rest →
    step s = .next { s with script := rest, mode := .unconfigured, cfg := none, snap := none, deviceAddress := a }

/-! Operations: completion with the whole next state -/

/-- CONFIGURE that is admitted, valid and written (R72): it sends the frame of R50, stores the configuration with the resolved
nb_keys (R15) and enters Configured. Bit 6 of byte 0 is D1, kat - 1 modulo 8 is D3, what CFG holds is D19. -/
def Obligations.ConfigureCompletes : Prop :=
  ∀ (s : State) (s1 s2 s3 : Nat) (skm psm dt : Bool) (arm : BitVec 2) (kat : Nat) (o : Option Nat),
    s.mode = .unconfigured → s1 + s2 + s3 ≤ 16 → nextWriteOutcome s = some .success →
    exec (.configure s1 s2 s3 skm psm dt arm kat o) s =
      .next (answered (.ok .unit)
        { written (drawnConfigFrame s1 s2 s3 skm psm dt arm kat (o.getD (16 - (s1 + s2 + s3)))) s with
          mode := .configured
          cfg := some { s1p := s1, s2p := s2, s3p := s3, skm := skm, psm := psm, dt := dt, arm := arm, kat := kat,
                        nbk := o.getD (16 - (s1 + s2 + s3)) } })

/-- CONFIGURE that fails: `AlreadyConfigured` when Configured (D5) and `ConfigError` when the pad sum exceeds 16 (R71), both
without bus traffic; `TransportError` when the write fails (R72). No state is written. -/
def Obligations.ConfigureFails : Prop :=
  ∀ (s : State) (s1 s2 s3 : Nat) (skm psm dt : Bool) (arm : BitVec 2) (kat : Nat) (o : Option Nat),
    (s.mode = .configured →
      exec (.configure s1 s2 s3 skm psm dt arm kat o) s = .next (answered (.error .alreadyConfigured) s)) ∧
    (s.mode = .unconfigured → s1 + s2 + s3 > 16 →
      exec (.configure s1 s2 s3 skm psm dt arm kat o) s = .next (answered (.error .configError) s)) ∧
    (∀ cause, s.mode = .unconfigured → s1 + s2 + s3 ≤ 16 → nextWriteOutcome s = some (.transportError cause) →
      exec (.configure s1 s2 s3 skm psm dt arm kat o) s =
        .next (answered (.error (.transportError cause))
          (written (drawnConfigFrame s1 s2 s3 skm psm dt arm kat (o.getD (16 - (s1 + s2 + s3)))) s)))

/-- SET_CUSTOM_THRESHOLD (R81) in both modes: it sends the frame of R51 and writes no state; `TransportError` as received;
`NotConfigured` without bus traffic (D4). -/
def Obligations.SetCustomThresholdCompletes : Prop :=
  ∀ (s : State) (pad low med high : Nat),
    (s.mode = .configured → nextWriteOutcome s = some .success →
      exec (.setCustomThreshold pad low med high) s =
        .next (answered (.ok .unit) (written (drawnCustomThresholdFrame pad low med high) s))) ∧
    (∀ cause, s.mode = .configured → nextWriteOutcome s = some (.transportError cause) →
      exec (.setCustomThreshold pad low med high) s =
        .next (answered (.error (.transportError cause)) (written (drawnCustomThresholdFrame pad low med high) s))) ∧
    (s.mode = .unconfigured →
      exec (.setCustomThreshold pad low med high) s = .next (answered (.error .notConfigured) s))

/-- SET_SLEEP_THRESHOLD (R83) in both modes: it sends the frame of R52 and writes no state; `TransportError` as received;
`NotConfigured` without bus traffic (D4). -/
def Obligations.SetSleepThresholdCompletes : Prop :=
  ∀ (s : State) (low med high : Nat),
    (s.mode = .configured → nextWriteOutcome s = some .success →
      exec (.setSleepThreshold low med high) s =
        .next (answered (.ok .unit) (written (drawnSleepThresholdFrame low med high) s))) ∧
    (∀ cause, s.mode = .configured → nextWriteOutcome s = some (.transportError cause) →
      exec (.setSleepThreshold low med high) s =
        .next (answered (.error (.transportError cause)) (written (drawnSleepThresholdFrame low med high) s))) ∧
    (s.mode = .unconfigured →
      exec (.setSleepThreshold low med high) s = .next (answered (.error .notConfigured) s))

/-- READ that gets six bytes with bit 7 of byte 0 set (R90, R92): one bus read of 6 bytes, SNAP replaced whole by the StatusFrame
of R53. -/
def Obligations.ReadCompletes : Prop :=
  ∀ (s : State) (b0 b1 b2 b3 b4 b5 : Byte),
    s.mode = .configured → nextReadOutcome s = some (.bytes [b0, b1, b2, b3, b4, b5]) → b0.getLsbD 7 = true →
    exec .read s = .next (answered (.ok .unit) { readDone s with snap := some (drawnStatus b0 b1 b2 b3 b4 b5) })

/-- READ that fails (R92): `NotConfigured` without bus traffic (D4), `TransportError` as received, `FrameLengthFault` on another
count of bytes (D8), `CalibrationError` when bit 7 of byte 0 is clear (R91). SNAP stays as it was. -/
def Obligations.ReadFails : Prop :=
  ∀ s : State,
    (s.mode = .unconfigured → exec .read s = .next (answered (.error .notConfigured) s)) ∧
    (∀ cause, s.mode = .configured → nextReadOutcome s = some (.transportError cause) →
      exec .read s = .next (answered (.error (.transportError cause)) (readDone s))) ∧
    (∀ received, s.mode = .configured → nextReadOutcome s = some (.bytes received) → received.length ≠ 6 →
      exec .read s = .next (answered (.error .frameLengthFault) (readDone s))) ∧
    (∀ b0 b1 b2 b3 b4 b5 : Byte, s.mode = .configured → nextReadOutcome s = some (.bytes [b0, b1, b2, b3, b4, b5]) →
      b0.getLsbD 7 = false → exec .read s = .next (answered (.error .calibrationError) (readDone s)))

/-- BUTTON (R100): bit n of the held mask, 0 for n of 16 or more; `NotConfigured` (D4) and `NoSnapshot` (D6). Nothing but the
result changes. -/
def Obligations.ButtonCompletes : Prop :=
  ∀ (s : State) (n : Nat),
    (∀ f, s.mode = .configured → s.snap = some f → n < 16 →
      exec (.button n) s = .next (answered (.ok (.bit (f.buttons.getLsbD n))) s)) ∧
    (∀ f, s.mode = .configured → s.snap = some f → 16 ≤ n →
      exec (.button n) s = .next (answered (.ok (.bit false)) s)) ∧
    (s.mode = .configured → s.snap = none → exec (.button n) s = .next (answered (.error .noSnapshot) s)) ∧
    (s.mode = .unconfigured → exec (.button n) s = .next (answered (.error .notConfigured) s))

/-- SLIDER (R101): the touch flag and position of slider 1, 2 or 3 of the held snapshot; `NotConfigured` (D4), then
`OperandFault` (D7), then `NoSnapshot` (D6). Nothing but the result changes. -/
def Obligations.SliderCompletes : Prop :=
  ∀ s : State,
    (∀ f, s.mode = .configured → s.snap = some f →
      exec (.slider 1) s = .next (answered (.ok (.touch f.st0 f.pos0)) s) ∧
      exec (.slider 2) s = .next (answered (.ok (.touch f.st1 f.pos1)) s) ∧
      exec (.slider 3) s = .next (answered (.ok (.touch f.st2 f.pos2)) s)) ∧
    (∀ n, s.mode = .configured → s.snap = none → 1 ≤ n ∧ n ≤ 3 →
      exec (.slider n) s = .next (answered (.error .noSnapshot) s)) ∧
    (∀ n, s.mode = .configured → n < 1 ∨ n > 3 →
      exec (.slider n) s = .next (answered (.error .operandFault) s)) ∧
    (∀ n, s.mode = .unconfigured → exec (.slider n) s = .next (answered (.error .notConfigured) s))

/-- The rows of the frames the block builds run their builder (R70, R71, R80, R82): the value is the very frame the row encodes,
or `ConfigError` when the frame's pad counts sum to more than 16, and nothing but the result changes. That a frame row runs the
pure function its table row cites is the model's reading (notes/assumptions/5.md). -/
def Obligations.BuilderRowsProduceTheirFrame : Prop :=
  (∀ (s : State) (skm psm dt : Bool) (arm : BitVec 2) (nbk : BitVec 5) (katm1 : BitVec 3) (s2p s1p s3p : BitVec 4)
      (bytes : List Byte),
    encode (.configFrame skm psm dt arm nbk katm1 s2p s1p s3p) = .frame bytes →
    exec (.configFrame skm psm dt arm nbk katm1 s2p s1p s3p) s =
      .next (answered (if s1p.toNat + s2p.toNat + s3p.toNat > 16 then .error .configError else .ok (.frame bytes)) s)) ∧
  (∀ (s : State) (pad med low high : BitVec 4) (bytes : List Byte),
    encode (.customThresholdFrame pad med low high) = .frame bytes →
    exec (.customThresholdFrame pad med low high) s = .next (answered (.ok (.frame bytes)) s)) ∧
  (∀ (s : State) (med low high : BitVec 4) (bytes : List Byte),
    encode (.sleepThresholdFrame med low high) = .frame bytes →
    exec (.sleepThresholdFrame med low high) s = .next (answered (.ok (.frame bytes)) s))

/-- The two status rows run the decoder (R90, R91): a StatusFrame with the row's fields, the ignored bits playing no part, or
`CalibrationError`; nothing but the result changes. That a frame row runs the pure function its table row cites is the model's
reading (notes/assumptions/5.md). -/
def Obligations.StatusRowsRunTheDecoder : Prop :=
  (∀ (s : State) (u : BitVec 4) (st2 st1 st0 : Bool) (l h p q r : Byte),
    exec (.statusFrame u st2 st1 st0 l h p q r) s =
      .next (answered (.ok (.status { calv := true, st0 := st0, st1 := st1, st2 := st2, buttons := h ++ l,
                                      pos0 := p, pos1 := q, pos2 := r })) s)) ∧
  (∀ (s : State) (u : BitVec 7) (b1 b2 b3 b4 b5 : Byte),
    exec (.statusFrameUncalibrated u b1 b2 b3 b4 b5) s = .next (answered (.error .calibrationError) s))

/-- An operation that reaches a bus call that never returns has no next step (R44, R139; U13: stuck). Stopping by this fault is
notes/assumptions/3.md. -/
def Obligations.BlockedBusBlocksTheOperation : Prop :=
  (∀ (s : State) (s1 s2 s3 : Nat) (skm psm dt : Bool) (arm : BitVec 2) (kat : Nat) (o : Option Nat),
    nextWriteOutcome s = none → s.mode = .unconfigured → s1 + s2 + s3 ≤ 16 →
      exec (.configure s1 s2 s3 skm psm dt arm kat o) s = .fault .busCallNeverReturns) ∧
  (∀ (s : State) (pad low med high : Nat), nextWriteOutcome s = none → s.mode = .configured →
      exec (.setCustomThreshold pad low med high) s = .fault .busCallNeverReturns ∧
      exec (.setSleepThreshold low med high) s = .fault .busCallNeverReturns) ∧
  (∀ s : State, nextReadOutcome s = none → s.mode = .configured → exec .read s = .fault .busCallNeverReturns)

/-- Every instruction answers a next state unless a bus call never returns (R140: the one liveness premise); none is refused. -/
def Obligations.EveryInstructionCompletesUnlessTheBusBlocks : Prop :=
  ∀ (i : Instr) (s : State),
    (busReturns s = true → ∃ t, exec i s = .next t) ∧
    (∀ f, exec i s = .fault f → busReturns s = false) ∧
    (∀ r, exec i s ≠ .refused r)

/-! The pure functions -/

/-- Validation (R71): `EncodeConfig` fails exactly when the exact pad sum exceeds 16, always with `ConfigError`, whatever the
other operands and the override are. -/
def Obligations.OnlyThePadSumIsValidated : Prop :=
  ∀ (bit6 : BitVec 1) (s1 s2 s3 : Nat) (skm psm dt : Bool) (arm : BitVec 2) (kat : Nat) (o : Option Nat) (e : OpError),
    encodeConfigWith bit6 s1 s2 s3 skm psm dt arm kat o = .error e ↔ s1 + s2 + s3 > 16 ∧ e = .configError

/-- Round trip of the mode bits (R65), whatever CFG_B0_BIT6 is. -/
def Obligations.ModeBitsRoundTrip : Prop :=
  ∀ (bit6 : BitVec 1) (s1 s2 s3 : Nat) (skm psm dt : Bool) (arm : BitVec 2) (kat : Nat) (o : Option Nat) (frame : List Byte)
      (nbk : Nat),
    encodeConfigWith bit6 s1 s2 s3 skm psm dt arm kat o = .ok (frame, nbk) →
    ∃ b, frame[0]? = some b ∧ b.getLsbD 5 = skm ∧ b.getLsbD 3 = psm ∧ b.getLsbD 2 = dt ∧ b.extractLsb' 0 2 = arm

/-- The key-count field (R56): the low five bits of the override, or of 16 minus the pad sum when there is none; the derived
value fits. -/
def Obligations.KeyCountField : Prop :=
  ∀ (s1 s2 s3 : Nat) (skm psm dt : Bool) (arm : BitVec 2) (kat : Nat), s1 + s2 + s3 ≤ 16 →
    (∃ frame b, encodeConfig s1 s2 s3 skm psm dt arm kat none = .ok (frame, 16 - (s1 + s2 + s3)) ∧
      frame[1]? = some b ∧ b.toNat / 8 = 16 - (s1 + s2 + s3)) ∧
    (∀ n, ∃ frame b, encodeConfig s1 s2 s3 skm psm dt arm kat (some n) = .ok (frame, n) ∧
      frame[1]? = some b ∧ b.toNat / 8 = n % 32)

/-- The key-acknowledge field (R55): the operand minus one in the declared range 1 to 8, masked outside it, so that adding 8 to any
operand changes nothing; 0 gives 7 by the spec's decision D3 (notes/assumptions/10.md). -/
def Obligations.KeyAcknowledgeField : Prop :=
  ∀ (s1 s2 s3 : Nat) (skm psm dt : Bool) (arm : BitVec 2) (kat : Nat) (o : Option Nat) (frame : List Byte) (nbk : Nat),
    encodeConfig s1 s2 s3 skm psm dt arm kat o = .ok (frame, nbk) →
    ∃ b, frame[1]? = some b ∧ (1 ≤ kat → b.toNat % 8 = (kat - 1) % 8) ∧ (1 ≤ kat ∧ kat ≤ 8 → b.toNat % 8 = kat - 1) ∧
      (kat = 0 → b.toNat % 8 = 7) ∧ encodeConfig s1 s2 s3 skm psm dt arm (kat + 8) o = .ok (frame, nbk)

/-- The derived values of the pad allocation (R15): nb_sliders counts the non-zero allocations; a CONFIGURE that enters Configured
holds nb_keys as the override when one is given, and otherwise as 16 minus the pad sum, which is then 0 to 16. -/
def Obligations.DerivedCounts : Prop :=
  (∀ s1 s2 s3 : Nat, sliderCount s1 s2 s3 = ([s1, s2, s3].filter (fun v => v ≠ 0)).length ∧ sliderCount s1 s2 s3 ≤ 3) ∧
  (∀ (s t : State) (s1 s2 s3 : Nat) (skm psm dt : Bool) (arm : BitVec 2) (kat : Nat) (o : Option Nat),
    s.mode = .unconfigured → exec (.configure s1 s2 s3 skm psm dt arm kat o) s = .next t → t.mode = .configured →
    ∃ c, t.cfg = some c ∧ (∀ n, o = some n → c.nbk = n) ∧ (o = none → c.nbk + (s1 + s2 + s3) = 16 ∧ c.nbk ≤ 16))

/-- A CONFIGURE without an override behaves exactly as one whose override n is 16 minus the pad sum, and where no such n exists
as one with any override (R64, R71; the optional operand is the spec's decision D13). -/
def Obligations.AbsentOverrideIsTheDerivedKeyCount : Prop :=
  ∀ (s : State) (s1 s2 s3 : Nat) (skm psm dt : Bool) (arm : BitVec 2) (kat n : Nat),
    (n + (s1 + s2 + s3) = 16 →
      exec (.configure s1 s2 s3 skm psm dt arm kat none) s = exec (.configure s1 s2 s3 skm psm dt arm kat (some n)) s) ∧
    (s1 + s2 + s3 > 16 →
      exec (.configure s1 s2 s3 skm psm dt arm kat none) s = exec (.configure s1 s2 s3 skm psm dt arm kat (some n)) s)

/-- Out-of-range operands lose their high bits silently and are never an error but for the pad sum (R60). Every threshold operand
is taken modulo 16: the operations act as on the masked operands, and the frames hold the masked values. `EncodeConfig` fails on a
pad sum above 16; on every other it succeeds, with or without an override, and its frame is that of the pad counts modulo 16 and
the key count (given or derived) modulo 32, which its bytes hold, and that of key_acknowledge_times with 8 added. The operand 0,
below the field's range, is in KeyAcknowledgeField, since its value is the spec's decision D3. -/
def Obligations.OperandsAreMaskedSilently : Prop :=
  (∀ (s : State) (pad low med high : Nat),
    exec (.setCustomThreshold pad low med high) s =
      exec (.setCustomThreshold (pad % 16) (low % 16) (med % 16) (high % 16)) s ∧
    (encodeCustomThreshold pad low med high).map (·.toNat) = [0xC0 + pad % 16, med % 16 * 16 + low % 16, high % 16]) ∧
  (∀ (s : State) (low med high : Nat),
    exec (.setSleepThreshold low med high) s = exec (.setSleepThreshold (low % 16) (med % 16) (high % 16)) s ∧
    (encodeSleepThreshold low med high).map (·.toNat) = [0xD0, med % 16 * 16 + low % 16, high % 16]) ∧
  (∀ (s1 s2 s3 : Nat) (skm psm dt : Bool) (arm : BitVec 2) (kat : Nat) (o : Option Nat), s1 + s2 + s3 > 16 →
    encodeConfig s1 s2 s3 skm psm dt arm kat o = .error .configError) ∧
  (∀ (s1 s2 s3 : Nat) (skm psm dt : Bool) (arm : BitVec 2) (kat : Nat) (o : Option Nat), s1 + s2 + s3 ≤ 16 →
    ∃ frame nbk, encodeConfig s1 s2 s3 skm psm dt arm kat o = .ok (frame, nbk) ∧ nbk = o.getD (16 - (s1 + s2 + s3)) ∧
      encodeConfig (s1 % 16) (s2 % 16) (s3 % 16) skm psm dt arm kat (some (nbk % 32)) = .ok (frame, nbk % 32) ∧
      (1 ≤ kat → encodeConfig s1 s2 s3 skm psm dt arm (kat + 8) o = .ok (frame, nbk)) ∧
      frame[1]?.map (·.toNat / 8) = some (nbk % 32) ∧
      (frame.drop 2).map (·.toNat) = [s2 % 16 * 16 + s1 % 16, s3 % 16])

/-- The kind and length of a built frame follow from its first byte (R58): with CFG_B0_BIT6 = 0 the three sets of first bytes do
not meet, with 1 an initialization byte 0 falls in 0xD0..0xDF or 0xF0..0xFF. The rule is the spec's own derivation. -/
def Obligations.FirstByteTellsTheFrameKind : Prop :=
  (∀ (bit6 : BitVec 1) (s1 s2 s3 : Nat) (skm psm dt : Bool) (arm : BitVec 2) (kat : Nat) (o : Option Nat) (frame : List Byte)
      (nbk : Nat), encodeConfigWith bit6 s1 s2 s3 skm psm dt arm kat o = .ok (frame, nbk) →
    frame.length = 4 ∧ ∃ b, frame[0]? = some b ∧
      (bit6 = 0#1 → (0x90 ≤ b.toNat ∧ b.toNat ≤ 0x9F) ∨ (0xB0 ≤ b.toNat ∧ b.toNat ≤ 0xBF)) ∧
      (bit6 = 1#1 → (0xD0 ≤ b.toNat ∧ b.toNat ≤ 0xDF) ∨ (0xF0 ≤ b.toNat ∧ b.toNat ≤ 0xFF))) ∧
  (∀ pad low med high : Nat, (encodeCustomThreshold pad low med high).length = 3 ∧
    ∃ b, (encodeCustomThreshold pad low med high)[0]? = some b ∧ 0xC0 ≤ b.toNat ∧ b.toNat ≤ 0xCF) ∧
  (∀ low med high : Nat, (encodeSleepThreshold low med high).length = 3 ∧
    (encodeSleepThreshold low med high)[0]? = some 0xD0#8)

/-- `EncodeCustomThreshold` (R80) and the frame of R51: every byte, for all natural operands;
it is what SET_CUSTOM_THRESHOLD writes. -/
def Obligations.CustomThresholdFrameBytes : Prop :=
  (∀ pad low med high : Nat, ∃ b0 b1 b2 : Byte, encodeCustomThreshold pad low med high = [b0, b1, b2] ∧
    b0.toNat = 0xC0 + pad % 16 ∧ b1.toNat = med % 16 * 16 + low % 16 ∧ b2.toNat = high % 16) ∧
  (∀ (s t : State) (pad low med high : Nat), exec (.setCustomThreshold pad low med high) s = .next t → t.bus ≠ s.bus →
    t.bus = .write (0#1 ++ s.deviceAddress) (encodeCustomThreshold pad low med high) :: s.bus)

/-- `EncodeSleepThreshold` (R82) and the frame of R52: every byte, for all natural operands; it
is what SET_SLEEP_THRESHOLD writes. -/
def Obligations.SleepThresholdFrameBytes : Prop :=
  (∀ low med high : Nat, ∃ b0 b1 b2 : Byte, encodeSleepThreshold low med high = [b0, b1, b2] ∧
    b0.toNat = 0xD0 ∧ b1.toNat = med % 16 * 16 + low % 16 ∧ b2.toNat = high % 16) ∧
  (∀ (s t : State) (low med high : Nat), exec (.setSleepThreshold low med high) s = .next t → t.bus ≠ s.bus →
    t.bus = .write (0#1 ++ s.deviceAddress) (encodeSleepThreshold low med high) :: s.bus)

/-- The decoder's failure (R91): bit 7 of byte 0 alone decides, the error is `CalibrationError`, and no StatusFrame is
produced. -/
def Obligations.DecoderFailsOnBitSevenAlone : Prop :=
  ∀ b0 b1 b2 b3 b4 b5 : Byte,
    (b0.getLsbD 7 = false → decodeStatus b0 b1 b2 b3 b4 b5 = .error .calibrationError) ∧
    (b0.getLsbD 7 = true → ∃ f, decodeStatus b0 b1 b2 b3 b4 b5 = .ok f)

/-- Which bits of a status frame matter (R53, R90): two frames that decode give the same StatusFrame exactly when they agree on
everything but bits 6 to 3 of byte 0 (that these are ignored is the spec's decision D14). -/
def Obligations.StatusBitsThatMatter : Prop :=
  ∀ b0 b1 b2 b3 b4 b5 c0 c1 c2 c3 c4 c5 : Byte, b0.getLsbD 7 = true → c0.getLsbD 7 = true →
    (decodeStatus b0 b1 b2 b3 b4 b5 = decodeStatus c0 c1 c2 c3 c4 c5 ↔
      b0.extractLsb' 0 3 = c0.extractLsb' 0 3 ∧ b1 = c1 ∧ b2 = c2 ∧ b3 = c3 ∧ b4 = c4 ∧ b5 = c5)

/-! The whole machine -/

/-- MODE changes only by a CONFIGURE whose bus write succeeds, from Unconfigured to Configured, and back only by reset; and such
a CONFIGURE and reset do change it (R12). -/
def Obligations.ModeChangesOnlyByConfigureAndReset : Prop :=
  (∀ s t : State, step s = .next t → t.mode ≠ s.mode →
    (s.mode = .unconfigured ∧ t.mode = .configured ∧ nextWriteOutcome s = some .success ∧
      t.results = .ok .unit :: s.results ∧
      ∃ p rest s1 s2 s3 skm psm dt arm kat o, s.script = .present p :: rest ∧
        decode p = .instr (.configure s1 s2 s3 skm psm dt arm kat o)) ∨
    (s.mode = .configured ∧ t.mode = .unconfigured ∧ ∃ a rest, s.script = .reset a :: rest)) ∧
  (∀ (s : State) (p : Presented) (rest : List HostMove) (s1 s2 s3 : Nat) (skm psm dt : Bool) (arm : BitVec 2) (kat : Nat)
      (o : Option Nat), s.script = .present p :: rest → decode p = .instr (.configure s1 s2 s3 skm psm dt arm kat o) →
    s.mode = .unconfigured → s1 + s2 + s3 ≤ 16 → nextWriteOutcome s = some .success →
    ∃ t, step s = .next t ∧ t.mode = .configured) ∧
  (∀ (s : State) (a : DeviceAddress) (rest : List HostMove), s.script = .reset a :: rest →
    ∃ t, step s = .next t ∧ t.mode = .unconfigured)

/-- The transition table of MODE (R24), row by row, and that everything else leaves MODE as it is. The two refusals are the
spec's decisions D4 and D5. -/
def Obligations.ModeTransitionTable : Prop :=
  (∀ (i : Instr) (s t : State), exec i s = .next t →
    (isConfigure i = true → s.mode = .unconfigured → t.results = .ok .unit :: s.results → t.mode = .configured) ∧
    (isConfigure i = true → s.mode = .unconfigured → ∀ e, t.results = .error e :: s.results → t.mode = .unconfigured) ∧
    (needsConfigured i = true → s.mode = .unconfigured → t = answered (.error .notConfigured) s) ∧
    (isConfigure i = true → s.mode = .configured → t = answered (.error .alreadyConfigured) s) ∧
    (isConfigure i = false → t.mode = s.mode)) ∧
  (∀ (a : DeviceAddress) (s : State), (reinstantiate a s).mode = .unconfigured)

/-- Once MODE is Configured no instruction changes CFG, and the threshold operations never touch it in any mode (R16). -/
def Obligations.ConfigurationIsImmutable : Prop :=
  ∀ (i : Instr) (s t : State), exec i s = .next t →
    (s.mode = .configured → t.cfg = s.cfg) ∧
    (∀ pad low med high, i = .setCustomThreshold pad low med high ∨ i = .setSleepThreshold low med high → t.cfg = s.cfg)

/-- SNAP is written only by READ, whole, on a fully successful decode; a READ that ends in an error leaves it (R19). -/
def Obligations.SnapshotIsWrittenOnlyByRead : Prop :=
  ∀ (i : Instr) (s t : State), exec i s = .next t →
    (i ≠ .read → t.snap = s.snap) ∧
    (i = .read → (∃ e, t.results = .error e :: s.results ∧ t.snap = s.snap) ∨
      (∃ b0 b1 b2 b3 b4 b5 f, nextReadOutcome s = some (.bytes [b0, b1, b2, b3, b4, b5]) ∧
        decodeStatus b0 b1 b2 b3 b4 b5 = .ok f ∧ t.snap = some f ∧ t.results = .ok .unit :: s.results))

/-- Every operation returns exactly one result, and one that returns an error has written no state of the block (R115). -/
def Obligations.ErrorsWriteNoState : Prop :=
  ∀ (i : Instr) (s t : State), exec i s = .next t →
    ∃ r, t.results = r :: s.results ∧
      (∀ e, r = .error e → t.mode = s.mode ∧ t.deviceAddress = s.deviceAddress ∧ t.cfg = s.cfg ∧ t.snap = s.snap ∧
        t.script = s.script)

/-- Which error is reported when several could apply: the first in the order of R114, for every operation in every state. The
place of the spec's own refusals in that order is its decision D15. -/
def Obligations.FirstErrorInOrderIsReported : Prop :=
  ∀ (i : Instr) (s t : State) (e : OpError), isHostOperation i = true → exec i s = .next t →
    (t.results = .error e :: s.results ↔ reportedError i s = some e)

/-- A `TransportError` reaches the host unmodified and nothing is retried (R46): whichever bus call fails, with whatever content,
exactly one transaction was issued and the error returned carries that content. -/
def Obligations.TransportErrorPassesUnmodified : Prop :=
  ∀ (i : Instr) (s t : State) (cause : TransportCause), exec i s = .next t →
    (t.bus ≠ s.bus → i ≠ .read → nextWriteOutcome s = some (.transportError cause) →
      t.results = .error (.transportError cause) :: s.results ∧ ∃ x, t.bus = x :: s.bus) ∧
    (t.bus ≠ s.bus → i = .read → nextReadOutcome s = some (.transportError cause) →
      t.results = .error (.transportError cause) :: s.results ∧ ∃ x, t.bus = x :: s.bus)

/-- The bus transactions of each operation (R36), and that no other instruction issues any. That READ sends nothing before it
reads is the spec's decision D17. -/
def Obligations.BusTransactionsOfEachOperation : Prop :=
  ∀ (i : Instr) (s t : State), exec i s = .next t →
    (isConfigure i = true →
      ((t.results = .error .alreadyConfigured :: s.results ∨ t.results = .error .configError :: s.results) ∧ t.bus = s.bus) ∨
      (t.results ≠ .error .alreadyConfigured :: s.results ∧ t.results ≠ .error .configError :: s.results ∧
        ∃ p, p.length = 4 ∧ t.bus = .write (0#1 ++ s.deviceAddress) p :: s.bus)) ∧
    (∀ pad low med high, i = .setCustomThreshold pad low med high ∨ i = .setSleepThreshold low med high →
      (t.results = .error .notConfigured :: s.results ∧ t.bus = s.bus) ∨
      (t.results ≠ .error .notConfigured :: s.results ∧
        ∃ p, p.length = 3 ∧ t.bus = .write (0#1 ++ s.deviceAddress) p :: s.bus)) ∧
    (i = .read →
      (t.results = .error .notConfigured :: s.results ∧ t.bus = s.bus) ∨
      (t.results ≠ .error .notConfigured :: s.results ∧ t.bus = .read (0#1 ++ s.deviceAddress) 6 :: s.bus)) ∧
    (isAccessor i = true ∨ isHostOperation i = false ∨ (∃ x, i = .illegalOp x) → t.bus = s.bus)

/-- DEV_ADDR (R13): no instruction writes it, every transaction carries it with bit 7 of the address byte 0 (R31), it is 0x50
after reset and the instance's own address after a reset with one. The instance parameter is the spec's decision D9. -/
def Obligations.DeviceAddressIsFixed : Prop :=
  (∀ (i : Instr) (s t : State), exec i s = .next t → t.deviceAddress = s.deviceAddress ∧
    (t.bus = s.bus ∨ ∃ x, t.bus = x :: s.bus ∧ ∃ a : Byte, a.toNat = s.deviceAddress.toNat ∧
      ((∃ p, x = .write a p) ∨ (∃ n, x = .read a n)))) ∧
  State.reset.deviceAddress = 0x50#7 ∧
  (∀ (a : DeviceAddress) (s : State), (reinstantiate a s).deviceAddress = a)

/-- The accessors (R103): in the Configured state, whatever instruction other than a successful READ comes between, BUTTON(n) and
SLIDER(n) return the same result again. -/
def Obligations.AccessorsAreIdempotent : Prop :=
  ∀ (a i : Instr) (s t : State), isAccessor a = true → s.mode = .configured → exec i s = .next t →
    (i = .read → t.results ≠ .ok .unit :: s.results) →
    ∃ r, exec a s = .next (answered r s) ∧ exec a t = .next (answered r t)

/-- Before the first successful READ the accessors return `NoSnapshot`, never a value; once SNAP is held only reset takes it away
(R102, the spec's decision D6). -/
def Obligations.NoSnapshotUntilTheFirstRead : Prop :=
  State.reset.snap = none ∧
  (∀ (a : DeviceAddress) (s : State), (reinstantiate a s).snap = none) ∧
  (∀ (i : Instr) (s t : State), isAccessor i = true → s.snap = none → exec i s = .next t →
    ∀ v, t.results ≠ .ok v :: s.results) ∧
  (∀ (i : Instr) (s t : State), s.snap.isSome = true → exec i s = .next t →
    t.snap.isSome = true ∧ (isAccessor i = true → t.results ≠ .error .noSnapshot :: s.results))

/-- No operation reads CFG back (R14, D19): with another held configuration every instruction answers the same result, the same
bus traffic, mode and snapshot. -/
def Obligations.NoInstructionReadsTheConfiguration : Prop :=
  ∀ (i : Instr) (s t : State) (c : Option DeviceConfig), exec i s = .next t →
    ∃ t', exec i { s with cfg := c } = .next t' ∧ t'.results = t.results ∧ t'.bus = t.bus ∧ t'.mode = t.mode ∧
      t'.snap = t.snap ∧ t'.deviceAddress = t.deviceAddress

/-! Invariants -/

/-- Every step keeps the facade's invariant (R12, R14, R18, R72): CFG held exactly when Configured, its pad sum at most 16, a held
SNAP calibrated and only when Configured. -/
def Obligations.StepKeepsTheFacadeInvariant : Prop :=
  ∀ s t : State, facadeInv s → step s = .next t → facadeInv t

/-- Every step keeps the bus legal (R31, R35, R57, R58, R59): only frames with the lengths, first bytes and reserved bits of the
three built frames are ever written, only 6 bytes are ever read, always with bit 7 of the address byte 0. Bit 6 and bit 4 of an
initialization frame are the spec's decisions D1 and D11. -/
def Obligations.StepKeepsTheBusLegal : Prop :=
  ∀ s t : State, busLegal s → step s = .next t → busLegal t

/-- Reset (R22): Unconfigured, no configuration, no snapshot, DEV_ADDR 0x50, and both invariants hold. Reset as the creation of a
fresh block is the spec's decision D16. -/
def Obligations.ResetMeetsTheInvariants : Prop :=
  State.reset.mode = .unconfigured ∧ State.reset.cfg = none ∧ State.reset.snap = none ∧ State.reset.deviceAddress = 0x50#7 ∧
    facadeInv State.reset ∧ busLegal State.reset
end

