-- ==== Sys2Proof/Laws/State.lean ====
section
/-! SUPPORT. One lemma per field per update of the state, each true by rfl. -/

namespace Sys2Proof.Machine

open Sys2Proof

variable (s : State)

@[simp] theorem returnValue_mode (v : Value) : (returnValue v s).mode = s.mode := rfl
@[simp] theorem returnValue_deviceAddress (v : Value) : (returnValue v s).deviceAddress = s.deviceAddress := rfl
@[simp] theorem returnValue_cfg (v : Value) : (returnValue v s).cfg = s.cfg := rfl
@[simp] theorem returnValue_snap (v : Value) : (returnValue v s).snap = s.snap := rfl
@[simp] theorem returnValue_script (v : Value) : (returnValue v s).script = s.script := rfl
@[simp] theorem returnValue_writeAnswers (v : Value) : (returnValue v s).writeAnswers = s.writeAnswers := rfl
@[simp] theorem returnValue_readAnswers (v : Value) : (returnValue v s).readAnswers = s.readAnswers := rfl
@[simp] theorem returnValue_freeIndex (v : Value) : (returnValue v s).freeIndex = s.freeIndex := rfl
@[simp] theorem returnValue_bus (v : Value) : (returnValue v s).bus = s.bus := rfl
@[simp] theorem returnValue_results (v : Value) : (returnValue v s).results = .ok v :: s.results := rfl

@[simp] theorem raiseError_mode (e : OpError) : (raiseError e s).mode = s.mode := rfl
@[simp] theorem raiseError_deviceAddress (e : OpError) : (raiseError e s).deviceAddress = s.deviceAddress := rfl
@[simp] theorem raiseError_cfg (e : OpError) : (raiseError e s).cfg = s.cfg := rfl
@[simp] theorem raiseError_snap (e : OpError) : (raiseError e s).snap = s.snap := rfl
@[simp] theorem raiseError_script (e : OpError) : (raiseError e s).script = s.script := rfl
@[simp] theorem raiseError_writeAnswers (e : OpError) : (raiseError e s).writeAnswers = s.writeAnswers := rfl
@[simp] theorem raiseError_readAnswers (e : OpError) : (raiseError e s).readAnswers = s.readAnswers := rfl
@[simp] theorem raiseError_freeIndex (e : OpError) : (raiseError e s).freeIndex = s.freeIndex := rfl
@[simp] theorem raiseError_bus (e : OpError) : (raiseError e s).bus = s.bus := rfl
@[simp] theorem raiseError_results (e : OpError) : (raiseError e s).results = .error e :: s.results := rfl

@[simp] theorem answered_mode (r : Result) : (answered r s).mode = s.mode := rfl
@[simp] theorem answered_deviceAddress (r : Result) : (answered r s).deviceAddress = s.deviceAddress := rfl
@[simp] theorem answered_cfg (r : Result) : (answered r s).cfg = s.cfg := rfl
@[simp] theorem answered_snap (r : Result) : (answered r s).snap = s.snap := rfl
@[simp] theorem answered_script (r : Result) : (answered r s).script = s.script := rfl
@[simp] theorem answered_writeAnswers (r : Result) : (answered r s).writeAnswers = s.writeAnswers := rfl
@[simp] theorem answered_readAnswers (r : Result) : (answered r s).readAnswers = s.readAnswers := rfl
@[simp] theorem answered_freeIndex (r : Result) : (answered r s).freeIndex = s.freeIndex := rfl
@[simp] theorem answered_bus (r : Result) : (answered r s).bus = s.bus := rfl
@[simp] theorem answered_results (r : Result) : (answered r s).results = r :: s.results := rfl

@[simp] theorem enterConfigured_mode (c : DeviceConfig) : (enterConfigured c s).mode = .configured := rfl
@[simp] theorem enterConfigured_deviceAddress (c : DeviceConfig) : (enterConfigured c s).deviceAddress = s.deviceAddress := rfl
@[simp] theorem enterConfigured_cfg (c : DeviceConfig) : (enterConfigured c s).cfg = some c := rfl
@[simp] theorem enterConfigured_snap (c : DeviceConfig) : (enterConfigured c s).snap = s.snap := rfl
@[simp] theorem enterConfigured_script (c : DeviceConfig) : (enterConfigured c s).script = s.script := rfl
@[simp] theorem enterConfigured_writeAnswers (c : DeviceConfig) : (enterConfigured c s).writeAnswers = s.writeAnswers := rfl
@[simp] theorem enterConfigured_readAnswers (c : DeviceConfig) : (enterConfigured c s).readAnswers = s.readAnswers := rfl
@[simp] theorem enterConfigured_freeIndex (c : DeviceConfig) : (enterConfigured c s).freeIndex = s.freeIndex := rfl
@[simp] theorem enterConfigured_bus (c : DeviceConfig) : (enterConfigured c s).bus = s.bus := rfl
@[simp] theorem enterConfigured_results (c : DeviceConfig) : (enterConfigured c s).results = s.results := rfl

@[simp] theorem storeSnapshot_mode (f : StatusFrame) : (storeSnapshot f s).mode = s.mode := rfl
@[simp] theorem storeSnapshot_deviceAddress (f : StatusFrame) : (storeSnapshot f s).deviceAddress = s.deviceAddress := rfl
@[simp] theorem storeSnapshot_cfg (f : StatusFrame) : (storeSnapshot f s).cfg = s.cfg := rfl
@[simp] theorem storeSnapshot_snap (f : StatusFrame) : (storeSnapshot f s).snap = some f := rfl
@[simp] theorem storeSnapshot_script (f : StatusFrame) : (storeSnapshot f s).script = s.script := rfl
@[simp] theorem storeSnapshot_writeAnswers (f : StatusFrame) : (storeSnapshot f s).writeAnswers = s.writeAnswers := rfl
@[simp] theorem storeSnapshot_readAnswers (f : StatusFrame) : (storeSnapshot f s).readAnswers = s.readAnswers := rfl
@[simp] theorem storeSnapshot_freeIndex (f : StatusFrame) : (storeSnapshot f s).freeIndex = s.freeIndex := rfl
@[simp] theorem storeSnapshot_bus (f : StatusFrame) : (storeSnapshot f s).bus = s.bus := rfl
@[simp] theorem storeSnapshot_results (f : StatusFrame) : (storeSnapshot f s).results = s.results := rfl

@[simp] theorem reinstantiate_mode (a : DeviceAddress) : (reinstantiate a s).mode = .unconfigured := rfl
@[simp] theorem reinstantiate_deviceAddress (a : DeviceAddress) : (reinstantiate a s).deviceAddress = a := rfl
@[simp] theorem reinstantiate_cfg (a : DeviceAddress) : (reinstantiate a s).cfg = none := rfl
@[simp] theorem reinstantiate_snap (a : DeviceAddress) : (reinstantiate a s).snap = none := rfl
@[simp] theorem reinstantiate_script (a : DeviceAddress) : (reinstantiate a s).script = s.script := rfl
@[simp] theorem reinstantiate_writeAnswers (a : DeviceAddress) : (reinstantiate a s).writeAnswers = s.writeAnswers := rfl
@[simp] theorem reinstantiate_readAnswers (a : DeviceAddress) : (reinstantiate a s).readAnswers = s.readAnswers := rfl
@[simp] theorem reinstantiate_freeIndex (a : DeviceAddress) : (reinstantiate a s).freeIndex = s.freeIndex := rfl
@[simp] theorem reinstantiate_bus (a : DeviceAddress) : (reinstantiate a s).bus = s.bus := rfl
@[simp] theorem reinstantiate_results (a : DeviceAddress) : (reinstantiate a s).results = s.results := rfl

@[simp] theorem presentNext_mode (p : Presented) : (presentNext p s).mode = s.mode := rfl
@[simp] theorem presentNext_deviceAddress (p : Presented) : (presentNext p s).deviceAddress = s.deviceAddress := rfl
@[simp] theorem presentNext_cfg (p : Presented) : (presentNext p s).cfg = s.cfg := rfl
@[simp] theorem presentNext_snap (p : Presented) : (presentNext p s).snap = s.snap := rfl
@[simp] theorem presentNext_script (p : Presented) : (presentNext p s).script = .present p :: s.script := rfl
@[simp] theorem presentNext_writeAnswers (p : Presented) : (presentNext p s).writeAnswers = s.writeAnswers := rfl
@[simp] theorem presentNext_readAnswers (p : Presented) : (presentNext p s).readAnswers = s.readAnswers := rfl
@[simp] theorem presentNext_freeIndex (p : Presented) : (presentNext p s).freeIndex = s.freeIndex := rfl
@[simp] theorem presentNext_bus (p : Presented) : (presentNext p s).bus = s.bus := rfl
@[simp] theorem presentNext_results (p : Presented) : (presentNext p s).results = s.results := rfl

theorem returnValue_eq (v : Value) : returnValue v s = answered (.ok v) s := rfl
theorem raiseError_eq (e : OpError) : raiseError e s = answered (.error e) s := rfl

end Sys2Proof.Machine
end

