-- ==== Sys2Proof/Laws/Ops.lean ====
section
/-! SUPPORT. For each shared operation, everything it can do. -/

namespace Sys2Proof.Machine

open Sys2Proof

/-! Ending an operation and admission. -/

theorem whenConfigured_configured {s : State} (h : s.mode = .configured) (k : StepOutcome) : whenConfigured s k = k := by
  simp [whenConfigured, h]

theorem whenConfigured_unconfigured {s : State} (h : s.mode = .unconfigured) (k : StepOutcome) :
    whenConfigured s k = .next (answered (.error .notConfigured) s) := by
  simp [whenConfigured, h, raiseError_eq]

theorem whenUnconfigured_unconfigured {s : State} (h : s.mode = .unconfigured) (k : StepOutcome) :
    whenUnconfigured s k = k := by
  simp [whenUnconfigured, h]

theorem whenUnconfigured_configured {s : State} (h : s.mode = .configured) (k : StepOutcome) :
    whenUnconfigured s k = .next (answered (.error .alreadyConfigured) s) := by
  simp [whenUnconfigured, h, raiseError_eq]

theorem withSnapshot_none {s : State} (h : s.snap = none) (k : StatusFrame → StepOutcome) :
    withSnapshot s k = .next (answered (.error .noSnapshot) s) := by
  simp [withSnapshot, h, raiseError_eq]

theorem withSnapshot_some {s : State} {f : StatusFrame} (h : s.snap = some f) (k : StatusFrame → StepOutcome) :
    withSnapshot s k = k f := by
  simp [withSnapshot, h]

/-! The bus primitives. -/

theorem addressByte_eq (a : DeviceAddress) : addressByte a = 0#1 ++ a := by
  revert a; decide

/-- A bus write returns with the next outcome and the state of `written`, or never. -/
theorem memWrite_eq (p : List Byte) (s : State) :
    memWrite s.deviceAddress p s = match nextWriteOutcome s with
      | some o => .returned o (written p s)
      | none => .never := by
  unfold memWrite nextWriteOutcome written
  rw [addressByte_eq]
  split <;> simp_all

/-- A bus read of 6 bytes returns with the next outcome and the state of `readDone`, or never. -/
theorem memRead_eq (s : State) :
    memRead s.deviceAddress 6 s = match nextReadOutcome s with
      | some o => .returned o (readDone s)
      | none => .never := by
  unfold memRead nextReadOutcome readDone
  rw [addressByte_eq]
  split <;> simp_all

@[simp] theorem written_mode (p : List Byte) (s : State) : (written p s).mode = s.mode := by
  unfold written; split <;> rfl
@[simp] theorem written_deviceAddress (p : List Byte) (s : State) : (written p s).deviceAddress = s.deviceAddress := by
  unfold written; split <;> rfl
@[simp] theorem written_cfg (p : List Byte) (s : State) : (written p s).cfg = s.cfg := by
  unfold written; split <;> rfl
@[simp] theorem written_snap (p : List Byte) (s : State) : (written p s).snap = s.snap := by
  unfold written; split <;> rfl
@[simp] theorem written_script (p : List Byte) (s : State) : (written p s).script = s.script := by
  unfold written; split <;> rfl
@[simp] theorem written_readAnswers (p : List Byte) (s : State) : (written p s).readAnswers = s.readAnswers := by
  unfold written; split <;> rfl
@[simp] theorem written_results (p : List Byte) (s : State) : (written p s).results = s.results := by
  unfold written; split <;> rfl
@[simp] theorem readDone_mode (s : State) : (readDone s).mode = s.mode := by
  unfold readDone; split <;> rfl
@[simp] theorem readDone_deviceAddress (s : State) : (readDone s).deviceAddress = s.deviceAddress := by
  unfold readDone; split <;> rfl
@[simp] theorem readDone_cfg (s : State) : (readDone s).cfg = s.cfg := by
  unfold readDone; split <;> rfl
@[simp] theorem readDone_snap (s : State) : (readDone s).snap = s.snap := by
  unfold readDone; split <;> rfl
@[simp] theorem readDone_script (s : State) : (readDone s).script = s.script := by
  unfold readDone; split <;> rfl
@[simp] theorem readDone_writeAnswers (s : State) : (readDone s).writeAnswers = s.writeAnswers := by
  unfold readDone; split <;> rfl
@[simp] theorem readDone_results (s : State) : (readDone s).results = s.results := by
  unfold readDone; split <;> rfl

theorem written_bus (p : List Byte) (s : State) :
    (written p s).bus = .write (0#1 ++ s.deviceAddress) p :: s.bus := by
  unfold written; split <;> rfl

theorem readDone_bus (s : State) : (readDone s).bus = .read (0#1 ++ s.deviceAddress) 6 :: s.bus := by
  unfold readDone; split <;> rfl

/-- If an operation goes on after a bus call to a next state, the call returned and that state is the continuation's. -/
theorem afterCall_next {α : Type} {r : BusReply α} {k : α → State → State} {t : State} (h : afterCall r k = .next t) :
    ∃ o s, r = .returned o s ∧ t = k o s := by
  cases r with
  | returned o s => exact ⟨o, s, rfl, by simpa [afterCall] using h.symm⟩
  | never => cases h

/-- Sending a frame: what its outcome makes of it. -/
theorem sendFrame_eq (p : List Byte) (s : State) :
    sendFrame p s = match nextWriteOutcome s with
      | some .success => .next (answered (.ok .unit) (written p s))
      | some (.transportError cause) => .next (answered (.error (.transportError cause)) (written p s))
      | none => .fault .busCallNeverReturns := by
  rw [sendFrame, memWrite_eq]
  cases nextWriteOutcome s with
  | none => rfl
  | some o => cases o <;> rfl

/-! Fetching. -/

theorem fetch_run {s : State} {p : Presented} {rest : List HostMove} {i : Instr} (h : s.script = .present p :: rest)
    (hd : decode p = .instr i) : fetch s = .run i { s with script := rest } := by
  simp [fetch, h, hd]

/-- What one step can do: nothing, a reset, or the decoded instruction; or it is refused. -/
theorem step_next {s t : State} (h : step s = .next t) :
    (s.script = [] ∧ t = s) ∨
    (∃ a rest, s.script = .reset a :: rest ∧ t = reinstantiate a { s with script := rest }) ∨
    (∃ p rest i, s.script = .present p :: rest ∧ decode p = .instr i ∧ exec i { s with script := rest } = .next t) := by
  unfold step fetch at h
  cases hs : s.script with
  | nil => simp [hs] at h; exact .inl ⟨rfl, h.symm⟩
  | cons m rest =>
    cases m with
    | reset a => simp [hs] at h; exact .inr (.inl ⟨a, rest, rfl, h.symm⟩)
    | present p =>
      cases hd : decode p with
      | instr i => simp [hs, hd] at h; exact .inr (.inr ⟨p, rest, i, rfl, hd, h⟩)
      | rejected why => simp [hs, hd] at h

end Sys2Proof.Machine
end

