-- ==== Sys2Proof/Laws/Frames.lean ====
section
/-! SUPPORT. The bytes the builders make are the bytes the bit tables draw, and the decoder's bit tests are bits. -/

namespace Sys2Proof.Machine

open Sys2Proof

theorem configByte0_eq (skm psm dt : Bool) (arm : BitVec 2) :
    configByte0 Config.configByte0Bit6 skm psm dt arm =
      1#1 ++ 0#1 ++ BitVec.ofBool skm ++ 1#1 ++ BitVec.ofBool psm ++ BitVec.ofBool dt ++ arm := by
  revert skm psm dt arm; decide

theorem placed_nibbles (hi lo : BitVec 4) : placed 4 hi ||| placed 0 lo = hi ++ lo := by
  revert hi lo; decide

theorem placed_low_nibble (v : BitVec 4) : placed 0 v = 0#4 ++ v := by
  revert v; decide

theorem placed_five_three (hi : BitVec 5) (lo : BitVec 3) : placed 3 hi ||| placed 0 lo = hi ++ lo := by
  revert hi lo; decide

theorem custom_selector (v : BitVec 4) : 0xC0#8 ||| placed 0 v = 0b1100#4 ++ v := by
  revert v; decide

theorem lowBits_eq (n v : Nat) : lowBits n v = BitVec.ofNat n (v % 2 ^ n) := by
  apply BitVec.eq_of_toNat_eq; simp [lowBits]

theorem acknowledgeField_eq (kat : Nat) : acknowledgeField kat = BitVec.ofNat 3 ((kat + 7) % 8) := by
  apply BitVec.eq_of_toNat_eq
  simp [acknowledgeField, lowBits, BitVec.toNat_sub]
  omega

theorem calibrationValid_eq (b : Byte) : calibrationValid b = b.getLsbD 7 := by
  revert b; decide

theorem touchFlag_eq (b : Byte) (i : Nat) (h : i < 3) : touchFlag b i = b.getLsbD i := by
  have : ∀ b : Byte, ∀ i : Fin 3, touchFlag b i = b.getLsbD i := by decide
  exact this b ⟨i, h⟩

theorem buttonMask_eq (b1 b2 : Byte) : buttonMask b1 b2 = b2 ++ b1 := by
  apply BitVec.eq_of_getLsbD_eq
  intro i hi
  simp only [buttonMask, BitVec.getLsbD_or, BitVec.getLsbD_setWidth, BitVec.getLsbD_shiftLeft, BitVec.getLsbD_append]
  by_cases h : i < 8
  · simp [h, hi]
  · have h1 : b1.getLsbD i = false := BitVec.getLsbD_of_ge b1 i (by omega)
    simp [h, hi, h1]
    omega

theorem buttonBit_eq (m : BitVec 16) (n : Nat) : buttonBit m n = m.getLsbD n := by
  have h0 : ∀ x : BitVec 16, (x &&& 1#16 == 1#16) = x.getLsbD 0 := by
    intro x
    rw [BitVec.and_one_eq_setWidth_ofBool_getLsbD]
    cases x.getLsbD 0 <;> rfl
  rw [buttonBit, h0]
  simp

/-! One spec lemma per pure function. -/

theorem resolvedKeys_eq (s1 s2 s3 : Nat) (o : Option Nat) : resolvedKeys s1 s2 s3 o = o.getD (16 - (s1 + s2 + s3)) := by
  cases o <;> rfl

theorem encodeConfig_eq (s1 s2 s3 : Nat) (skm psm dt : Bool) (arm : BitVec 2) (kat : Nat) (o : Option Nat) :
    encodeConfig s1 s2 s3 skm psm dt arm kat o =
      if s1 + s2 + s3 > 16 then .error .configError
      else .ok (drawnConfigFrame s1 s2 s3 skm psm dt arm kat (o.getD (16 - (s1 + s2 + s3))), o.getD (16 - (s1 + s2 + s3))) := by
  unfold encodeConfig encodeConfigWith
  simp only [configByte0_eq, placed_nibbles, placed_five_three]
  simp only [placed_low_nibble, acknowledgeField_eq, lowBits_eq, resolvedKeys_eq]
  simp [padsExceed, padTotal, Config.padsTotal, drawnConfigFrame]

theorem encodeCustomThreshold_eq (pad low med high : Nat) :
    encodeCustomThreshold pad low med high = drawnCustomThresholdFrame pad low med high := by
  simp only [encodeCustomThreshold, levelsByte, placed_nibbles, custom_selector]
  simp only [placed_low_nibble, lowBits_eq]
  rfl

theorem encodeSleepThreshold_eq (low med high : Nat) :
    encodeSleepThreshold low med high = drawnSleepThresholdFrame low med high := by
  simp only [encodeSleepThreshold, levelsByte, placed_nibbles]
  simp only [placed_low_nibble, lowBits_eq]
  rfl

theorem decodeStatus_eq (b0 b1 b2 b3 b4 b5 : Byte) :
    decodeStatus b0 b1 b2 b3 b4 b5 =
      if b0.getLsbD 7 then .ok (drawnStatus b0 b1 b2 b3 b4 b5) else .error .calibrationError := by
  simp only [decodeStatus, calibrationValid_eq, touchFlag_eq _ 0 (by decide), touchFlag_eq _ 1 (by decide),
    touchFlag_eq _ 2 (by decide), buttonMask_eq]
  rfl

theorem decodeReceived_length {bytes : List Byte} (h : bytes.length ≠ 6) :
    decodeReceived bytes = .error .frameLengthFault := by
  unfold decodeReceived
  split
  · simp at h
  · rfl

theorem sliderIndex_none (n : Nat) : sliderIndex n = none ↔ n < 1 ∨ n > 3 := by
  unfold sliderIndex
  split
  · subst_vars; simp
  · split
    · subst_vars; simp
    · split
      · subst_vars; simp
      · simp; omega

end Sys2Proof.Machine
end

