-- ==== Sys2Proof/Laws/PerInstr.lean ====
section
/-! SUPPORT. Per instruction: its encoding has the fixed bits of its row in spec/opcode_table.json (the match and mask columns,
byte by byte for the frames, the three select bits for the host port). -/

namespace Sys2Proof.Laws.RowEncoding

open Sys2Proof

/-- A row's mask and match: per byte of a frame, or of the three select bits of R63. -/
inductive Row where
  | frame (bytes : List (Byte × Byte))
  | select (mask value : BitVec 3)

/-- The table. -/
def row : Instr → Row
  | .configFrame _ _ _ _ _ _ _ _ _ => .frame [(0xD0, 0x90), (0, 0), (0, 0), (0xF0, 0)]
  | .customThresholdFrame _ _ _ _ => .frame [(0xF0, 0xC0), (0, 0), (0xF0, 0)]
  | .sleepThresholdFrame _ _ _ => .frame [(0xFF, 0xD0), (0, 0), (0xF0, 0)]
  | .statusFrame _ _ _ _ _ _ _ _ _ => .frame [(0x80, 0x80), (0, 0), (0, 0), (0, 0), (0, 0), (0, 0)]
  | .statusFrameUncalibrated _ _ _ _ _ _ => .frame [(0x80, 0), (0, 0), (0, 0), (0, 0), (0, 0), (0, 0)]
  | .configure _ _ _ _ _ _ _ _ _ => .select 7 0
  | .setCustomThreshold _ _ _ _ => .select 7 1
  | .setSleepThreshold _ _ _ => .select 7 2
  | .read => .select 7 3
  | .button _ => .select 7 4
  | .slider _ => .select 7 5
  | .illegalOp _ => .select 6 6

/-- Whether the bytes have the fixed bits, and there are as many of them. -/
def fitsBytes : List (Byte × Byte) → List Byte → Prop
  | [], [] => True
  | (mask, value) :: rows, b :: bytes => b &&& mask = value ∧ fitsBytes rows bytes
  | _, _ => False

/-- Whether what is presented has the row's fixed bits. -/
def fits : Row → Presented → Prop
  | .frame rows, .frame bytes => fitsBytes rows bytes
  | .select mask value, .host p => p.op &&& mask = value
  | _, _ => False

/-- The encoding of the instruction has its row's fixed bits. -/
def Statement (i : Instr) : Prop := fits (row i) (encode i)

theorem and_zero_byte (b : Byte) : b &&& 0#8 = 0#8 := BitVec.and_zero

theorem configFrame (skm psm dt : Bool) (arm : BitVec 2) (nbk : BitVec 5) (katm1 : BitVec 3) (s2p s1p s3p : BitVec 4) :
    Statement (.configFrame skm psm dt arm nbk katm1 s2p s1p s3p) := by
  have h0 : ∀ (skm psm dt : Bool) (arm : BitVec 2),
      ((1#1 ++ 0#1 ++ flagBit skm ++ 1#1 ++ flagBit psm ++ flagBit dt ++ arm : Byte) &&& 0xD0#8) = 0x90#8 := by decide
  have h3 : ∀ v : BitVec 4, ((0#4 ++ v : Byte) &&& 0xF0#8) = 0#8 := by decide
  exact ⟨h0 skm psm dt arm, and_zero_byte _, and_zero_byte _, h3 s3p, trivial⟩

theorem customThresholdFrame (pad med low high : BitVec 4) : Statement (.customThresholdFrame pad med low high) := by
  have h0 : ∀ v : BitVec 4, ((0b1100#4 ++ v : Byte) &&& 0xF0#8) = 0xC0#8 := by decide
  have h2 : ∀ v : BitVec 4, ((0#4 ++ v : Byte) &&& 0xF0#8) = 0#8 := by decide
  exact ⟨h0 pad, and_zero_byte _, h2 high, trivial⟩

theorem sleepThresholdFrame (med low high : BitVec 4) : Statement (.sleepThresholdFrame med low high) := by
  have h2 : ∀ v : BitVec 4, ((0#4 ++ v : Byte) &&& 0xF0#8) = 0#8 := by decide
  exact ⟨by decide, and_zero_byte _, h2 high, trivial⟩

theorem statusFrame (ignored : BitVec 4) (st2 st1 st0 : Bool) (buttonsLow buttonsHigh pos0 pos1 pos2 : Byte) :
    Statement (.statusFrame ignored st2 st1 st0 buttonsLow buttonsHigh pos0 pos1 pos2) := by
  have h0 : ∀ (u : BitVec 4) (c b a : Bool),
      ((1#1 ++ u ++ flagBit c ++ flagBit b ++ flagBit a : Byte) &&& 0x80#8) = 0x80#8 := by decide
  exact ⟨h0 ignored st2 st1 st0, and_zero_byte _, and_zero_byte _, and_zero_byte _, and_zero_byte _, and_zero_byte _, trivial⟩

theorem statusFrameUncalibrated (rest0 : BitVec 7) (b1 b2 b3 b4 b5 : Byte) :
    Statement (.statusFrameUncalibrated rest0 b1 b2 b3 b4 b5) := by
  have h0 : ∀ v : BitVec 7, ((0#1 ++ v : Byte) &&& 0x80#8) = 0#8 := by decide
  exact ⟨h0 rest0, and_zero_byte _, and_zero_byte _, and_zero_byte _, and_zero_byte _, and_zero_byte _, trivial⟩

theorem configure (s1 s2 s3 : Nat) (skm psm dt : Bool) (arm : BitVec 2) (kat : Nat) (nbkOverride : Option Nat) :
    Statement (.configure s1 s2 s3 skm psm dt arm kat nbkOverride) :=
  (by decide : (0#3 &&& 7#3) = 0#3)

theorem setCustomThreshold (pad low med high : Nat) : Statement (.setCustomThreshold pad low med high) :=
  (by decide : (1#3 &&& 7#3) = 1#3)

theorem setSleepThreshold (low med high : Nat) : Statement (.setSleepThreshold low med high) :=
  (by decide : (2#3 &&& 7#3) = 2#3)

theorem read : Statement .read :=
  (by decide : (3#3 &&& 7#3) = 3#3)

theorem button (n : Nat) : Statement (.button n) :=
  (by decide : (4#3 &&& 7#3) = 4#3)

theorem slider (n : Nat) : Statement (.slider n) :=
  (by decide : (5#3 &&& 7#3) = 5#3)

theorem illegalOp (x : BitVec 1) : Statement (.illegalOp x) := by
  have h : ∀ x : BitVec 1, ((0b11#2 ++ x : BitVec 3) &&& 6#3) = 6#3 := by decide
  exact h x

end Sys2Proof.Laws.RowEncoding
end

