-- ==== Sys2Proof/WellFormed.lean ====
section
/-! DEFINITION. Which instructions are well-formed. The operand types already exclude everything the host port cannot present
(R66; D2). One check is left: an initialization frame is one the ConfigFrame Builder can produce only when the pad counts it
carries sum to at most 16 (R14, R71). -/

namespace Sys2Proof

/-- An initialization frame carries a pad allocation the builder accepts (R71). DEDUCED (notes/assumptions/14.md), safe: a pad
count is at least its low four bits, so a frame whose counts sum to more is never built. -/
def Instr.wf : Instr → Bool
  | .configFrame _ _ _ _ _ _ s2p s1p s3p => decide (s1p.toNat + s2p.toNat + s3p.toNat ≤ Config.padsTotal)
  | .customThresholdFrame _ _ _ _ => true
  | .sleepThresholdFrame _ _ _ => true
  | .statusFrame _ _ _ _ _ _ _ _ _ => true
  | .statusFrameUncalibrated _ _ _ _ _ _ => true
  | .configure _ _ _ _ _ _ _ _ _ => true
  | .setCustomThreshold _ _ _ _ => true
  | .setSleepThreshold _ _ _ => true
  | .read => true
  | .button _ => true
  | .slider _ => true
  | .illegalOp _ => true

end Sys2Proof
end

