-- ==== Sys2Proof/Tests/Slice0.lean ====
section
/-! SUPPORT. The model's own tests: expected values are the vectors of 95_test_vectors.md and the bit tables of 30_encoding.md;
and a witness of the hypotheses of each statement. -/

namespace Sys2Proof.Tests

open Sys2Proof Sys2Proof.Machine

/-! Helpers. -/

/-- The state an outcome goes on in. -/
def after : StepOutcome → Option State
  | .next s => some s
  | .fault _ => none
  | .refused _ => none

/-- The newest result, with the number of bus transactions seen. -/
def answerOf (o : StepOutcome) : Option (Option Result × Nat) := (after o).map fun s => (s.results.head?, s.bus.length)

/-- The newest bus transaction. -/
def trafficOf (o : StepOutcome) : Option (Option Transaction) := (after o).map fun s => s.bus.head?

/-- An unconfigured block whose transport answers one write. -/
def fresh (o : WriteOutcome) : State := { State.reset with writeAnswers := [.returns o] }

/-- The snapshot of vector S5. -/
def snapS5 : StatusFrame := ⟨true, true, false, true, 0x1234#16, 10#8, 20#8, 30#8⟩

/-- A configured block with a snapshot, whose transport answers one write and one read. -/
def ready (w : WriteOutcome) (r : ReadOutcome) : State :=
  { State.reset with mode := .configured, cfg := some ⟨4, 0, 0, false, false, true, 1#2, 4, 12⟩, snap := some snapS5,
                     writeAnswers := [.returns w], readAnswers := [.returns r] }

/-- The six bytes of S5. -/
def bytesS5 : List Byte := [0x85#8, 0x34#8, 0x12#8, 0x0A#8, 0x14#8, 0x1E#8]

def good : State := ready .success (.bytes bytesS5)

/-- A configured block that has read nothing. -/
def blank : State := { good with snap := none }

/-- A block whose next bus calls never return. -/
def blocked (m : Mode) : State := { State.reset with mode := m, writeAnswers := [.never], readAnswers := [.never] }

/-! Well-formedness: the one check, at 16 and at 17 (R71), and an ill-formed frame it refuses. -/

theorem test_wf_sum_16 : (Instr.configFrame false false false 0#2 0#5 0#3 5#4 5#4 6#4).wf = true := by decide
theorem test_wf_sum_17 : (Instr.configFrame false false false 0#2 0#5 0#3 6#4 5#4 6#4).wf = false := by decide

/-! Decoding, one word per constructor. -/

/-- T9: byte 0 0xB6 = 1 0 1 1 0 1 10, byte 1 0x22 = 00100 010. -/
theorem test_decode_configFrame :
    decodeTableWord 32 0xB6224305 = some (.configFrame true false true 2#2 4#5 2#3 4#4 3#4 5#4) := by decide
/-- S3. -/
theorem test_decode_customThresholdFrame :
    decodeTableWord 24 0xC5A307 = some (.customThresholdFrame 5#4 10#4 3#4 7#4) := by decide
/-- S4. -/
theorem test_decode_sleepThresholdFrame :
    decodeTableWord 24 0xD0F001 = some (.sleepThresholdFrame 15#4 0#4 1#4) := by decide
/-- T52. -/
theorem test_decode_statusFrame :
    decodeTableWord 48 0xFA0180010203 = some (.statusFrame 15#4 false true false 1#8 0x80#8 1#8 2#8 3#8) := by decide
/-- T53. -/
theorem test_decode_statusFrameUncalibrated :
    decodeTableWord 48 0x7FFFFFFFFFFF = some (.statusFrameUncalibrated 0x7F#7 0xFF#8 0xFF#8 0xFF#8 0xFF#8 0xFF#8) := by decide
/-- P2 step 2 on the port lines. -/
theorem test_decode_configure :
    decode (.host ⟨0#3, 5, 5, 6, 3, true, false, true, 2#2, none⟩) = .instr (.configure 5 5 6 true false true 2#2 3 none) := by
  decide
/-- P2 step 5. -/
theorem test_decode_setCustomThreshold :
    decode (.host ⟨1#3, 16, 17, 18, 19, false, false, false, 0#2, none⟩) = .instr (.setCustomThreshold 16 17 18 19) := by decide
/-- P4 step 2. -/
theorem test_decode_setSleepThreshold :
    decode (.host ⟨2#3, 255, 1, 16, 0, false, false, false, 0#2, none⟩) = .instr (.setSleepThreshold 255 1 16) := by decide
theorem test_decode_read : decodeTableWord 8 3 = some .read := by decide
theorem test_decode_button :
    decode (.host ⟨4#3, 11, 0, 0, 0, false, false, false, 0#2, none⟩) = .instr (.button 11) := by decide
theorem test_decode_slider :
    decode (.host ⟨5#3, 3, 0, 0, 0, false, false, false, 0#2, none⟩) = .instr (.slider 3) := by decide
theorem test_decode_illegalOp :
    decodeTableWord 8 6 = some (.illegalOp 0#1) ∧ decodeTableWord 8 7 = some (.illegalOp 1#1) := by decide
/-- R59, R57: first bytes never emitted, a reserved bit, a length no frame has. -/
theorem test_decode_rejects :
    decode (.frame [0xD1#8, 0, 0]) = .rejected .firstByte ∧ decode (.frame [0xA0#8, 0, 0, 0]) = .rejected .firstByte ∧
    decode (.frame [0xC0#8, 0, 0x10#8]) = .rejected .reservedBits ∧ decode (.frame [0x90#8, 0, 0, 0x10#8]) = .rejected .reservedBits ∧
    decode (.frame [0x80#8, 0, 0, 0, 0]) = .rejected .frameLength := by decide

/-! The builders and the decoder on the spec's vectors. -/

/-- T1, T3, T4, T6, T10, T11, T12, T13, T14, T22, T26. -/
theorem test_encodeConfig_vectors :
    (encodeConfig 0 0 0 false false false 0#2 1 none).toOption = some ([0x90, 0x80, 0x00, 0x00], 16) ∧
    (encodeConfig 8 8 0 true true true 3#2 8 none).toOption = some ([0xBF, 0x07, 0x88, 0x00], 0) ∧
    (encodeConfig 5 5 6 false true false 2#2 1 none).toOption = some ([0x9A, 0x00, 0x55, 0x06], 0) ∧
    (encodeConfig 16 0 0 false false false 0#2 1 none).toOption = some ([0x90, 0x00, 0x00, 0x00], 0) ∧
    (encodeConfig 3 4 5 true false true 2#2 3 (some 31)).toOption = some ([0xB6, 0xFA, 0x43, 0x05], 31) ∧
    (encodeConfig 3 4 5 true false true 2#2 3 (some 32)).toOption = some ([0xB6, 0x02, 0x43, 0x05], 32) ∧
    (encodeConfig 3 4 5 true false true 2#2 3 (some 33)).toOption = some ([0xB6, 0x0A, 0x43, 0x05], 33) ∧
    (encodeConfig 0 0 0 false false false 0#2 9 none).toOption = some ([0x90, 0x80, 0x00, 0x00], 16) ∧
    (encodeConfig 0 0 0 false false false 0#2 0 none).toOption = some ([0x90, 0x87, 0x00, 0x00], 16) ∧
    (encodeConfig 2 3 0 false false true 1#2 4 none).toOption = some ([0x95, 0x5B, 0x32, 0x00], 11) ∧
    (encodeConfig 8 8 0 true true true 3#2 8 (some 40)).toOption = some ([0xBF, 0x47, 0x88, 0x00], 40) := by decide
/-- T5, T8, T25. -/
theorem test_encodeConfig_errors :
    encodeConfig 6 5 6 false false false 0#2 1 none = .error .configError ∧
    encodeConfig 17 0 0 false false false 0#2 1 none = .error .configError ∧
    encodeConfig 9 7 1 false false false 0#2 1 (some 0) = .error .configError := by decide
/-- T34, T36, T43, T44. -/
theorem test_threshold_vectors :
    encodeCustomThreshold 16 16 16 16 = [0xC0, 0x00, 0x00] ∧ encodeCustomThreshold 21 255 256 257 = [0xC5, 0x0F, 0x01] ∧
    encodeSleepThreshold 16 31 32 = [0xD0, 0xF0, 0x00] ∧ encodeSleepThreshold 255 1 16 = [0xD0, 0x1F, 0x00] := by decide
/-- T55, T57, S6. -/
theorem test_decodeStatus_vectors :
    decodeStatus 0x82 0x00 0x01 0x00 0xC8 0x00 = .ok ⟨true, false, true, false, 0x0100, 0, 200, 0⟩ ∧
    decodeStatus 0xB8 0xAA 0x55 0x07 0x08 0x09 = .ok ⟨true, false, false, false, 0x55AA, 7, 8, 9⟩ ∧
    decodeStatus 0x05 0x34 0x12 0x0A 0x14 0x1E = .error .calibrationError := by decide

/-! One step of each instruction. -/

/-- P1 step 1. -/
theorem test_configure_sends :
    trafficOf (exec (.configure 4 0 0 false false true 1#2 4 none) (fresh .success)) =
      some (some (.write 0x50#8 [0x95, 0x63, 0x04, 0x00])) := by decide
/-- P2 step 2: the write fails, nothing is stored. -/
theorem test_configure_transport_error :
    (after (exec (.configure 5 5 6 true false true 2#2 3 none) (fresh (.transportError 9)))).map (fun s => (s.mode, s.cfg, s.results))
      = some (.unconfigured, none, [.error (.transportError 9)]) := by decide
/-- P2 step 5. -/
theorem test_setCustomThreshold_sends :
    trafficOf (exec (.setCustomThreshold 16 17 18 19) good) = some (some (.write 0x50#8 [0xC0, 0x21, 0x03])) := by decide
/-- D4. -/
theorem test_setCustomThreshold_unconfigured :
    answerOf (exec (.setCustomThreshold 0 0 0 0) (fresh .success)) = some (some (.error .notConfigured), 0) := by decide
/-- P2 step 6. -/
theorem test_setSleepThreshold_sends :
    trafficOf (exec (.setSleepThreshold 0 15 1) good) = some (some (.write 0x50#8 [0xD0, 0xF0, 0x01])) := by decide
/-- P3 step 8. -/
theorem test_read_stores :
    (after (exec .read blank)).map (fun s => (s.snap, s.bus)) = some (some snapS5, [.read 0x50#8 6]) := by decide
/-- P3 step 12: the old snapshot stays. -/
theorem test_read_uncalibrated :
    (after (exec .read (ready .success (.bytes [0x7A, 0xFF, 0xFF, 1, 2, 3])))).map (fun s => (s.snap, s.results)) =
      some (some snapS5, [.error .calibrationError]) := by decide
/-- R100: bit 4 of 0x1234 is 1, bit 3 is 0. -/
theorem test_button :
    answerOf (exec (.button 4) good) = some (some (.ok (.bit true)), 0) ∧
    answerOf (exec (.button 3) good) = some (some (.ok (.bit false)), 0) := by decide
/-- BUTTON(1000) = 0. -/
theorem test_button_wide : answerOf (exec (.button 1000) good) = some (some (.ok (.bit false)), 0) := by decide
/-- P3 step 9. -/
theorem test_slider :
    answerOf (exec (.slider 1) good) = some (some (.ok (.touch true 10)), 0) ∧
    answerOf (exec (.slider 2) good) = some (some (.ok (.touch false 20)), 0) ∧
    answerOf (exec (.slider 3) good) = some (some (.ok (.touch true 30)), 0) := by decide
/-- P3 step 17 and the order of R114. -/
theorem test_slider_range :
    answerOf (exec (.slider 0) blank) = some (some (.error .operandFault), 0) ∧
    answerOf (exec (.slider 4) good) = some (some (.error .operandFault), 0) := by decide
theorem test_illegalOp : answerOf (exec (.illegalOp 0#1) State.reset) = some (some (.error .illegalOp), 0) := by decide
/-- T9 as a frame. -/
theorem test_configFrame :
    answerOf (exec (.configFrame true false true 2#2 4#5 2#3 4#4 3#4 5#4) State.reset) =
      some (some (.ok (.frame [0xB6, 0x22, 0x43, 0x05])), 0) := by decide
theorem test_configFrame_overcommitted :
    answerOf (exec (.configFrame false false false 0#2 0#5 0#3 5#4 6#4 6#4) State.reset) =
      some (some (.error .configError), 0) := by decide
theorem test_customThresholdFrame :
    answerOf (exec (.customThresholdFrame 5#4 10#4 3#4 7#4) State.reset) = some (some (.ok (.frame [0xC5, 0xA3, 0x07])), 0) := by
  decide
theorem test_sleepThresholdFrame :
    answerOf (exec (.sleepThresholdFrame 15#4 0#4 1#4) State.reset) = some (some (.ok (.frame [0xD0, 0xF0, 0x01])), 0) := by
  decide
/-- T52. -/
theorem test_statusFrame :
    answerOf (exec (.statusFrame 15#4 false true false 1#8 0x80#8 1#8 2#8 3#8) State.reset) =
      some (some (.ok (.status ⟨true, false, true, false, 0x8001, 1, 2, 3⟩)), 0) := by decide
theorem test_statusFrameUncalibrated :
    answerOf (exec (.statusFrameUncalibrated 0x7F#7 0xFF#8 0xFF#8 0xFF#8 0xFF#8 0xFF#8) good) =
      some (some (.error .calibrationError), 0) := by decide

/-! The step: a placed word, a free answer, a reset. -/

theorem test_first_step_runs_a_frame :
    answerOf (step (State.reset.withFetchWord 24 0xC5A307)) = some (some (.ok (.frame [0xC5, 0xA3, 0x07])), 0) := by decide
/-- With no answer listed the transport's answer is free, and the operation still completes with one 4-byte write. -/
theorem test_first_step_configures : ∃ t, step (State.reset.withFetchWord 8 0) = .next t := ⟨_, rfl⟩
theorem test_reset_move :
    (after (step { good with script := [.reset 0x51#7] })).map (fun s => (s.mode, s.cfg, s.snap, s.deviceAddress, s.bus)) =
      some (.unconfigured, none, none, 0x51#7, []) := by decide

/-! Witnesses: for each statement with hypotheses, a state and operands that meet them together, a clause at a time. -/

theorem witness_DecodedFrameEncodesBack : decode (.frame [0xC5, 0xA3, 0x07]) = .instr (.customThresholdFrame 5#4 10#4 3#4 7#4) := by
  decide
theorem witness_SelectAndResultCodes :
    (HostPort.select 0#3).op = 0#3 ∧ (HostPort.select 5#3).op = 5#3 ∧ (HostPort.select 6#3).op = 6#3 ∧
      (HostPort.select 7#3).op = 7#3 := by decide
theorem witness_StepRunsTheDecodedInstruction :
    ({ good with script := [.present (encode .read)] } : State).script = .present (encode .read) :: [] ∧
      decode (encode .read) = .instr .read := by decide
theorem witness_PlacedWordRunsNext : decodeTableWord 8 5 = some (.slider 0) := by decide
theorem witness_StepWithoutAnInstruction :
    State.reset.script = [] ∧
    ({ good with script := [.present (.frame [])] } : State).script = .present (.frame []) :: [] ∧
    decode (.frame []) = .rejected .frameLength := by decide
theorem witness_ResetMoveGivesAFreshBlock :
    ({ good with script := [.reset 0x51#7] } : State).script = .reset 0x51#7 :: [] := by decide
/-- Sum exactly 16. -/
theorem witness_ConfigureCompletes :
    (fresh .success).mode = .unconfigured ∧ 5 + 5 + 6 ≤ 16 ∧ nextWriteOutcome (fresh .success) = some .success := by decide
/-- Sums 17 and 16. -/
theorem witness_ConfigureFails :
    good.mode = .configured ∧ ((fresh .success).mode = .unconfigured ∧ 17 + 0 + 0 > 16) ∧
    ((fresh (.transportError 7)).mode = .unconfigured ∧ 16 + 0 + 0 ≤ 16 ∧
      nextWriteOutcome (fresh (.transportError 7)) = some (.transportError 7)) := by decide
theorem witness_SetCustomThresholdCompletes :
    (good.mode = .configured ∧ nextWriteOutcome good = some .success) ∧
    ((ready (.transportError 7) (.bytes [])).mode = .configured ∧
      nextWriteOutcome (ready (.transportError 7) (.bytes [])) = some (.transportError 7)) ∧
    State.reset.mode = .unconfigured := by decide
theorem witness_SetSleepThresholdCompletes :
    (good.mode = .configured ∧ nextWriteOutcome good = some .success) ∧
    ((ready (.transportError 8) (.bytes [])).mode = .configured ∧
      nextWriteOutcome (ready (.transportError 8) (.bytes [])) = some (.transportError 8)) ∧
    State.reset.mode = .unconfigured := by decide
theorem witness_ReadCompletes :
    good.mode = .configured ∧ nextReadOutcome good = some (.bytes [0x85, 0x34, 0x12, 0x0A, 0x14, 0x1E]) ∧
      (0x85#8).getLsbD 7 = true := by decide
/-- Five and seven bytes beside six. -/
theorem witness_ReadFails :
    State.reset.mode = .unconfigured ∧
    nextReadOutcome (ready .success (.transportError 3)) = some (.transportError 3) ∧
    (nextReadOutcome (ready .success (.bytes [0x80, 0, 0, 0, 0])) = some (.bytes [0x80, 0, 0, 0, 0]) ∧
      ([0x80, 0, 0, 0, 0] : List Byte).length ≠ 6) ∧
    (nextReadOutcome (ready .success (.bytes [0x80, 0, 0, 0, 0, 0, 0])) = some (.bytes [0x80, 0, 0, 0, 0, 0, 0]) ∧
      ([0x80, 0, 0, 0, 0, 0, 0] : List Byte).length ≠ 6) ∧
    (nextReadOutcome (ready .success (.bytes [0x7F, 0, 0, 0, 0, 0])) = some (.bytes [0x7F, 0, 0, 0, 0, 0]) ∧
      (0x7F#8).getLsbD 7 = false) := by decide
/-- n = 15 and n = 16. -/
theorem witness_ButtonCompletes :
    (good.mode = .configured ∧ good.snap = some snapS5 ∧ 15 < 16 ∧ 16 ≤ 16) ∧
    (blank.mode = .configured ∧ blank.snap = none) ∧ State.reset.mode = .unconfigured := by decide
/-- n = 0, 1, 3 and 4. -/
theorem witness_SliderCompletes :
    (good.mode = .configured ∧ good.snap = some snapS5) ∧ (blank.mode = .configured ∧ blank.snap = none) ∧
    (1 ≤ 1 ∧ 1 ≤ 3) ∧ (1 ≤ 3 ∧ 3 ≤ 3) ∧ (0 < 1 ∨ 0 > 3) ∧ (4 < 1 ∨ 4 > 3) ∧ State.reset.mode = .unconfigured := by decide
theorem witness_BuilderRowsProduceTheirFrame :
    encode (.configFrame true false true 2#2 4#5 2#3 4#4 3#4 5#4) = .frame [0xB6, 0x22, 0x43, 0x05] ∧
    encode (.customThresholdFrame 5#4 10#4 3#4 7#4) = .frame [0xC5, 0xA3, 0x07] ∧
    encode (.sleepThresholdFrame 15#4 0#4 1#4) = .frame [0xD0, 0xF0, 0x01] := by decide
theorem witness_BlockedBusBlocksTheOperation :
    (nextWriteOutcome (blocked .unconfigured) = none ∧ (blocked .unconfigured).mode = .unconfigured ∧ 16 + 0 + 0 ≤ 16) ∧
    (nextWriteOutcome (blocked .configured) = none ∧ (blocked .configured).mode = .configured) ∧
    nextReadOutcome (blocked .configured) = none := by decide
theorem witness_EveryInstructionCompletesUnlessTheBusBlocks :
    busReturns good = true ∧ exec .read (blocked .configured) = .fault .busCallNeverReturns := ⟨by decide, rfl⟩
theorem witness_ModeBitsRoundTrip :
    (encodeConfigWith 1#1 4 0 0 false false true 1#2 4 none).toOption = some ([0xD5, 0x63, 0x04, 0x00], 12) := by decide
theorem witness_KeyCountField : 16 + 0 + 0 ≤ 16 := by decide
/-- kat = 0, 1, 8 and 9. -/
theorem witness_KeyAcknowledgeField :
    (encodeConfig 0 0 0 false false false 0#2 0 none).toOption = some ([0x90, 0x87, 0x00, 0x00], 16) ∧
    (encodeConfig 0 0 0 false false false 0#2 1 none).toOption = some ([0x90, 0x80, 0x00, 0x00], 16) ∧
    (encodeConfig 0 0 0 false false false 0#2 8 none).toOption = some ([0x90, 0x87, 0x00, 0x00], 16) ∧
    (encodeConfig 0 0 0 false false false 0#2 9 none).toOption = some ([0x90, 0x80, 0x00, 0x00], 16) := by decide
theorem witness_DerivedCounts :
    (fresh .success).mode = .unconfigured ∧
    (∃ t, exec (.configure 4 0 0 false false true 1#2 4 none) (fresh .success) = .next t ∧ t.mode = .configured) ∧
    (∃ t, exec (.configure 8 8 0 true true true 3#2 8 (some 40)) (fresh .success) = .next t ∧ t.mode = .configured) :=
  ⟨rfl, ⟨_, rfl, rfl⟩, ⟨_, rfl, rfl⟩⟩
theorem witness_AbsentOverrideIsTheDerivedKeyCount : 0 + (16 + 0 + 0) = 16 ∧ 16 + (0 + 0 + 0) = 16 ∧ 17 + 0 + 0 > 16 := by decide
/-- Vectors T6 (no override, a pad count of 16) and T8 (the pad sum), kat = 1 and 9, and both sides of the pad sum. -/
theorem witness_OperandsAreMaskedSilently :
    (encodeConfig 16 0 0 false false false 0#2 1 none).toOption = some ([0x90, 0x00, 0x00, 0x00], 0) ∧
    (encodeConfig 17 0 0 false false false 0#2 1 none).toOption = none ∧
    (encodeConfig 16 0 0 false false false 0#2 9 none).toOption = some ([0x90, 0x00, 0x00, 0x00], 0) ∧
    16 + 0 + 0 ≤ 16 ∧ 17 + 0 + 0 > 16 ∧ 1 ≤ 1 := by decide
theorem witness_FirstByteTellsTheFrameKind :
    (encodeConfigWith 0#1 0 0 0 false false false 0#2 1 none).toOption = some ([0x90, 0x80, 0x00, 0x00], 16) ∧
    (encodeConfigWith 1#1 0 0 0 false false false 0#2 1 none).toOption = some ([0xD0, 0x80, 0x00, 0x00], 16) := by decide
theorem witness_CustomThresholdFrameBytes : ∃ t, exec (.setCustomThreshold 5 3 10 7) good = .next t ∧ t.bus ≠ good.bus :=
  ⟨_, rfl, by decide⟩
theorem witness_SleepThresholdFrameBytes : ∃ t, exec (.setSleepThreshold 0 15 1) good = .next t ∧ t.bus ≠ good.bus :=
  ⟨_, rfl, by decide⟩
theorem witness_DecoderFailsOnBitSevenAlone : (0x7F#8).getLsbD 7 = false ∧ (0x80#8).getLsbD 7 = true := by decide
theorem witness_StatusBitsThatMatter : (0x85#8).getLsbD 7 = true ∧ (0xFD#8).getLsbD 7 = true := by decide
/-- A step that configures, and a step that resets. -/
theorem witness_ModeChangesOnlyByConfigureAndReset :
    (∃ t, step { fresh .success with script := [.present (encode (.configure 4 0 0 false false true 1#2 4 none))] } = .next t ∧
      t.mode ≠ .unconfigured) ∧
    (decode (encode (.configure 4 0 0 false false true 1#2 4 none)) = .instr (.configure 4 0 0 false false true 1#2 4 none) ∧
      (fresh .success).mode = .unconfigured ∧ 4 + 0 + 0 ≤ 16 ∧ nextWriteOutcome (fresh .success) = some .success) ∧
    (∃ t, step { good with script := [.reset 0x50#7] } = .next t ∧ t.mode ≠ .configured) :=
  ⟨⟨_, rfl, by decide⟩, by decide, ⟨_, rfl, by decide⟩⟩
theorem witness_ModeTransitionTable :
    (∃ t, exec (.configure 4 0 0 false false true 1#2 4 none) (fresh .success) = .next t ∧ t.results = [.ok .unit]) ∧
    (∃ t, exec (.configure 17 0 0 false false true 1#2 4 none) (fresh .success) = .next t ∧ t.results = [.error .configError]) ∧
    (∃ t, exec .read State.reset = .next t) ∧
    (∃ t, exec (.configure 4 0 0 false false true 1#2 4 none) good = .next t) ∧
    (∃ t, exec .read good = .next t) :=
  ⟨⟨_, rfl, by decide⟩, ⟨_, rfl, by decide⟩, ⟨_, rfl⟩, ⟨_, rfl⟩, ⟨_, rfl⟩⟩
theorem witness_ConfigurationIsImmutable :
    (∃ t, exec (.configure 1 0 0 false false true 1#2 4 none) good = .next t) ∧
    (∃ t, exec (.setCustomThreshold 1 2 3 4) State.reset = .next t) ∧
    (∃ t, exec (.setSleepThreshold 2 3 4) good = .next t) := ⟨⟨_, rfl⟩, ⟨_, rfl⟩, ⟨_, rfl⟩⟩
/-- A READ that succeeds, a READ that fails, and another operation. -/
theorem witness_SnapshotIsWrittenOnlyByRead :
    (∃ t, exec .read blank = .next t ∧ t.results = [.ok .unit]) ∧
    (∃ t, exec .read (ready .success (.bytes [])) = .next t ∧ t.results = [.error .frameLengthFault]) ∧
    (∃ t, exec (.setSleepThreshold 2 3 4) good = .next t) := ⟨⟨_, rfl, by decide⟩, ⟨_, rfl, by decide⟩, ⟨_, rfl⟩⟩
theorem witness_ErrorsWriteNoState :
    ∃ t, exec .read (ready .success (.transportError 3)) = .next t ∧ t.results = .error (.transportError 3) :: [] :=
  ⟨_, rfl, by decide⟩
/-- Doubly faulty: SLIDER(0) while Unconfigured, and SLIDER(0) while Configured without a snapshot. -/
theorem witness_FirstErrorInOrderIsReported :
    isHostOperation (.slider 0) = true ∧
    (∃ t, exec (.slider 0) State.reset = .next t ∧ t.results = [.error .notConfigured]) ∧
    (∃ t, exec (.slider 0) blank = .next t ∧ t.results = [.error .operandFault]) :=
  ⟨rfl, ⟨_, rfl, by decide⟩, ⟨_, rfl, by decide⟩⟩
theorem witness_TransportErrorPassesUnmodified :
    (nextWriteOutcome (fresh (.transportError 9)) = some (.transportError 9) ∧
      ∃ t, exec (.configure 4 0 0 false false true 1#2 4 none) (fresh (.transportError 9)) = .next t ∧ t.bus ≠ []) ∧
    (nextReadOutcome (ready .success (.transportError 3)) = some (.transportError 3) ∧
      ∃ t, exec .read (ready .success (.transportError 3)) = .next t ∧ t.bus ≠ []) :=
  ⟨⟨rfl, _, rfl, by decide⟩, ⟨rfl, _, rfl, by decide⟩⟩
theorem witness_BusTransactionsOfEachOperation :
    (∃ t, exec (.configure 17 0 0 false false true 1#2 4 none) (fresh .success) = .next t) ∧
    (∃ t, exec (.configure 4 0 0 false false true 1#2 4 none) (fresh .success) = .next t) ∧
    (∃ t, exec (.setCustomThreshold 1 2 3 4) good = .next t) ∧ (∃ t, exec .read good = .next t) ∧
    (∃ t, exec (.button 0) good = .next t) := ⟨⟨_, rfl⟩, ⟨_, rfl⟩, ⟨_, rfl⟩, ⟨_, rfl⟩, ⟨_, rfl⟩⟩
theorem witness_DeviceAddressIsFixed : ∃ t, exec .read { good with deviceAddress := 0x51#7 } = .next t := ⟨_, rfl⟩
/-- Between them nothing, a threshold operation, and a READ that fails. -/
theorem witness_AccessorsAreIdempotent :
    isAccessor (.button 4) = true ∧ good.mode = .configured ∧ (∃ t, exec (.button 4) good = .next t) ∧
    (∃ t, exec (.setSleepThreshold 2 3 4) good = .next t) ∧
    (∃ t, exec .read (ready .success (.transportError 3)) = .next t ∧ t.results ≠ [.ok .unit]) :=
  ⟨rfl, rfl, ⟨_, rfl⟩, ⟨_, rfl⟩, ⟨_, rfl, by decide⟩⟩
theorem witness_NoSnapshotUntilTheFirstRead :
    (isAccessor (.slider 1) = true ∧ blank.snap = none ∧ ∃ t, exec (.slider 1) blank = .next t) ∧
    (good.snap.isSome = true ∧ ∃ t, exec (.button 16) good = .next t) := ⟨⟨rfl, rfl, _, rfl⟩, ⟨rfl, _, rfl⟩⟩
theorem witness_NoInstructionReadsTheConfiguration : ∃ t, exec (.button 4) good = .next t := ⟨_, rfl⟩
theorem witness_facadeInv : facadeInv good := by simp [facadeInv, good, ready, snapS5]
theorem witness_StepKeepsTheFacadeInvariant :
    facadeInv { good with script := [.present (encode .read)] } ∧
      ∃ t, step { good with script := [.present (encode .read)] } = .next t :=
  ⟨by simp [facadeInv, good, ready, snapS5], _, rfl⟩
theorem witness_StepKeepsTheBusLegal :
    busLegal { good with script := [.present (encode .read)], bus := [.write 0x50#8 [0x95, 0x63, 0x04, 0x00]] } ∧
      ∃ t, step { good with script := [.present (encode .read)], bus := [.write 0x50#8 [0x95, 0x63, 0x04, 0x00]] } = .next t :=
  ⟨by unfold busLegal; decide, _, rfl⟩

end Sys2Proof.Tests
end

section
/-!
What each operation that calls the bus can end in, the other operations together, and from these the one inversion lemma about
`exec` (`exec_ends`) that every statement about what an instruction changes and leaves alone rests on.
-/

namespace Sys2Proof.Machine

open Sys2Proof

/-! A bus call and what follows it. -/

theorem afterCall_memWrite_next_iff {p : List Byte} {s t : State} {k : WriteOutcome → State → State} :
    afterCall (memWrite s.deviceAddress p s) k = .next t ↔ ∃ o, nextWriteOutcome s = some o ∧ t = k o (written p s) := by
  rw [memWrite_eq]
  cases nextWriteOutcome s <;> simp [afterCall, eq_comm]

theorem afterCall_memRead_next_iff {s t : State} {k : ReadOutcome → State → State} :
    afterCall (memRead s.deviceAddress Config.statusLength s) k = .next t ↔
      ∃ o, nextReadOutcome s = some o ∧ t = k o (readDone s) := by
  rw [show Config.statusLength = 6 from rfl, memRead_eq]
  cases nextReadOutcome s <;> simp [afterCall, eq_comm]

/-- What the host gets back from an operation whose bus write ended so (R46, R72, R81, R83). -/
def writeResult : WriteOutcome → Result
  | .success => .ok .unit
  | .transportError cause => .error (.transportError cause)

@[simp] theorem writeResult_success : writeResult .success = .ok .unit := rfl
@[simp] theorem writeResult_transportError (cause : TransportCause) :
    writeResult (.transportError cause) = .error (.transportError cause) := rfl

theorem sendFrame_next_iff {p : List Byte} {s t : State} :
    sendFrame p s = .next t ↔ ∃ o, nextWriteOutcome s = some o ∧ t = answered (writeResult o) (written p s) := by
  rw [sendFrame_eq]
  rcases nextWriteOutcome s with _ | _ | cause <;> simp [eq_comm]

@[simp] theorem finishConfigure_success (c : DeviceConfig) (s : State) :
    finishConfigure c .success s = answered (.ok .unit) (enterConfigured c s) := rfl
@[simp] theorem finishConfigure_transportError (c : DeviceConfig) (cause : TransportCause) (s : State) :
    finishConfigure c (.transportError cause) s = answered (.error (.transportError cause)) s := rfl

/-- Six bytes that decode are stored whole (R92); everything else is an error (R46, R91, R113). -/
theorem finishRead_cases (o : ReadOutcome) (s : State) :
    (∃ e, finishRead o s = answered (.error e) s) ∨
    (∃ b0 b1 b2 b3 b4 b5 f, o = .bytes [b0, b1, b2, b3, b4, b5] ∧ decodeStatus b0 b1 b2 b3 b4 b5 = .ok f ∧
      finishRead o s = answered (.ok .unit) (storeSnapshot f s)) := by
  cases o with
  | transportError cause => exact .inl ⟨_, rfl⟩
  | bytes received =>
    cases hd : decodeReceived received with
    | error e => exact .inl ⟨e, by simp [finishRead, hd, raiseError_eq]⟩
    | ok f =>
      unfold decodeReceived at hd
      split at hd
      next b0 b1 b2 b3 b4 b5 =>
        exact .inr ⟨b0, b1, b2, b3, b4, b5, f, rfl, hd, by simp [finishRead, decodeReceived, hd, returnValue_eq]⟩
      next => cases hd

/-! The operations that call the bus. -/

/-- What a CONFIGURE with these operands stores (R14, R15, D19). -/
def presentedConfig (s1 s2 s3 : Nat) (skm psm dt : Bool) (arm : BitVec 2) (kat : Nat) (o : Option Nat) : DeviceConfig :=
  { s1p := s1, s2p := s2, s3p := s3, skm := skm, psm := psm, dt := dt, arm := arm, kat := kat,
    nbk := o.getD (16 - (s1 + s2 + s3)) }

/-- CONFIGURE (R72): refused when Configured, refused on its pad sum, or ended by what its one bus write came to. -/
theorem exec_configure_next_iff {s t : State} {s1 s2 s3 : Nat} {skm psm dt : Bool} {arm : BitVec 2} {kat : Nat}
    {o : Option Nat} :
    exec (.configure s1 s2 s3 skm psm dt arm kat o) s = .next t ↔
      (s.mode = .configured ∧ t = answered (.error .alreadyConfigured) s) ∨
      (s.mode = .unconfigured ∧ 16 < s1 + s2 + s3 ∧ t = answered (.error .configError) s) ∨
      (s.mode = .unconfigured ∧ s1 + s2 + s3 ≤ 16 ∧ ∃ w, nextWriteOutcome s = some w ∧
        t = finishConfigure (presentedConfig s1 s2 s3 skm psm dt arm kat o) w
          (written (drawnConfigFrame s1 s2 s3 skm psm dt arm kat (o.getD (16 - (s1 + s2 + s3)))) s)) := by
  change execConfigure s1 s2 s3 skm psm dt arm kat o s = .next t ↔ _
  rw [execConfigure, encodeConfig_eq]
  cases hm : s.mode with
  | configured => simp [whenUnconfigured_configured hm, eq_comm]
  | unconfigured =>
    rw [whenUnconfigured_unconfigured hm]
    by_cases hs : 16 < s1 + s2 + s3
    · simp [hs, raiseError_eq, eq_comm]
    · simp [hs, Nat.le_of_not_lt hs, afterCall_memWrite_next_iff, presentedConfig]

theorem exec_configure_of_write_success {s : State} {s1 s2 s3 : Nat} {skm psm dt : Bool} {arm : BitVec 2} {kat : Nat}
    {o : Option Nat} (hm : s.mode = .unconfigured) (hs : s1 + s2 + s3 ≤ 16) (hw : nextWriteOutcome s = some .success) :
    exec (.configure s1 s2 s3 skm psm dt arm kat o) s =
      .next (answered (.ok .unit) (enterConfigured (presentedConfig s1 s2 s3 skm psm dt arm kat o)
        (written (drawnConfigFrame s1 s2 s3 skm psm dt arm kat (o.getD (16 - (s1 + s2 + s3)))) s))) :=
  exec_configure_next_iff.mpr (.inr (.inr ⟨hm, hs, .success, hw, rfl⟩))

/-- Sending a threshold frame once admitted (R24, R81, R83). -/
theorem whenConfigured_sendFrame_next_iff {p : List Byte} {s t : State} :
    whenConfigured s (sendFrame p s) = .next t ↔
      (s.mode = .unconfigured ∧ t = answered (.error .notConfigured) s) ∨
      (s.mode = .configured ∧ ∃ w, nextWriteOutcome s = some w ∧ t = answered (writeResult w) (written p s)) := by
  cases hm : s.mode with
  | unconfigured => simp [whenConfigured_unconfigured hm, eq_comm]
  | configured => simp [whenConfigured_configured hm, sendFrame_next_iff]

theorem exec_setCustomThreshold_next_iff {s t : State} {pad low med high : Nat} :
    exec (.setCustomThreshold pad low med high) s = .next t ↔
      (s.mode = .unconfigured ∧ t = answered (.error .notConfigured) s) ∨
      (s.mode = .configured ∧ ∃ w, nextWriteOutcome s = some w ∧
        t = answered (writeResult w) (written (encodeCustomThreshold pad low med high) s)) :=
  whenConfigured_sendFrame_next_iff

theorem exec_setSleepThreshold_next_iff {s t : State} {low med high : Nat} :
    exec (.setSleepThreshold low med high) s = .next t ↔
      (s.mode = .unconfigured ∧ t = answered (.error .notConfigured) s) ∨
      (s.mode = .configured ∧ ∃ w, nextWriteOutcome s = some w ∧
        t = answered (writeResult w) (written (encodeSleepThreshold low med high) s)) :=
  whenConfigured_sendFrame_next_iff

/-- READ (R92): refused when Unconfigured, or ended by what its one bus read came to. -/
theorem exec_read_next_iff {s t : State} :
    exec .read s = .next t ↔
      (s.mode = .unconfigured ∧ t = answered (.error .notConfigured) s) ∨
      (s.mode = .configured ∧ ∃ o, nextReadOutcome s = some o ∧ t = finishRead o (readDone s)) := by
  change execRead s = .next t ↔ _
  rw [execRead]
  cases hm : s.mode with
  | unconfigured => simp [whenConfigured_unconfigured hm, eq_comm]
  | configured => simp [whenConfigured_configured hm, afterCall_memRead_next_iff]

/-! The other instructions, and all of them. -/

/-- The four operations that can call the transport (R36). -/
def usesBus : Instr → Bool
  | .configure _ _ _ _ _ _ _ _ _ => true
  | .setCustomThreshold _ _ _ _ => true
  | .setSleepThreshold _ _ _ => true
  | .read => true
  | _ => false

theorem deliver_eq_answered (r : Except OpError Value) (s : State) : ∃ a, deliver r s = answered a s := by
  cases r with
  | ok v => exact ⟨.ok v, rfl⟩
  | error e => exact ⟨.error e, rfl⟩

theorem execButton_answers (n : Nat) (s : State) : ∃ r, execButton n s = .next (answered r s) := by
  rw [execButton]
  cases hm : s.mode with
  | unconfigured => exact ⟨_, whenConfigured_unconfigured hm _⟩
  | configured =>
    rw [whenConfigured_configured hm]
    cases hf : s.snap with
    | none => exact ⟨_, withSnapshot_none hf _⟩
    | some f => exact ⟨_, withSnapshot_some hf _⟩

theorem execSlider_answers (n : Nat) (s : State) : ∃ r, execSlider n s = .next (answered r s) := by
  rw [execSlider]
  cases hm : s.mode with
  | unconfigured => exact ⟨_, whenConfigured_unconfigured hm _⟩
  | configured =>
    rw [whenConfigured_configured hm]
    cases sliderIndex n with
    | none => exact ⟨_, rfl⟩
    | some i =>
      cases hf : s.snap with
      | none => exact ⟨_, withSnapshot_none hf _⟩
      | some f => exact ⟨_, withSnapshot_some hf _⟩

/-- An instruction that does not call the bus answers the host, and that is all it does. -/
theorem exec_answers {i : Instr} (hi : usesBus i = false) (s : State) : ∃ r, exec i s = .next (answered r s) := by
  cases i with
  | configFrame skm psm dt arm nbk katm1 s2p s1p s3p =>
    obtain ⟨r, hr⟩ := deliver_eq_answered _ s
    exact ⟨r, congrArg _ hr⟩
  | statusFrame u st2 st1 st0 l h p q r =>
    obtain ⟨a, ha⟩ := deliver_eq_answered _ s
    exact ⟨a, congrArg _ ha⟩
  | statusFrameUncalibrated u b1 b2 b3 b4 b5 =>
    obtain ⟨r, hr⟩ := deliver_eq_answered _ s
    exact ⟨r, congrArg _ hr⟩
  | customThresholdFrame | sleepThresholdFrame | illegalOp => exact ⟨_, rfl⟩
  | button n => exact execButton_answers n s
  | slider n => exact execSlider_answers n s
  | configure | setCustomThreshold | setSleepThreshold | read => cases hi

/-- The ways an instruction can end in a next state. -/
inductive Ends (s : State) : Instr → State → Prop
  /-- It does not call the bus, and answers. -/
  | answers {i : Instr} (hi : usesBus i = false) (r : Result) : Ends s i (answered r s)
  /-- It is refused before its bus call (R24, R71). -/
  | refuses {i : Instr} (hi : usesBus i = true) (e : OpError) : Ends s i (answered (.error e) s)
  /-- A threshold operation sends its frame (R81, R83). -/
  | sends {i : Instr} (hi : isConfigure i = false) (hr : i ≠ .read) (p : List Byte) {w : WriteOutcome}
      (hw : nextWriteOutcome s = some w) : Ends s i (answered (writeResult w) (written p s))
  /-- The write of a CONFIGURE fails (R72). -/
  | configureFails {i : Instr} (hi : isConfigure i = true) (p : List Byte) {cause : TransportCause}
      (hw : nextWriteOutcome s = some (.transportError cause)) :
      Ends s i (answered (.error (.transportError cause)) (written p s))
  /-- The write of a CONFIGURE succeeds (R72). -/
  | configures (s1 s2 s3 : Nat) (skm psm dt : Bool) (arm : BitVec 2) (kat : Nat) (o : Option Nat) (p : List Byte)
      (hm : s.mode = .unconfigured) (hs : s1 + s2 + s3 ≤ 16) (hw : nextWriteOutcome s = some .success) :
      Ends s (.configure s1 s2 s3 skm psm dt arm kat o)
        (answered (.ok .unit) (enterConfigured (presentedConfig s1 s2 s3 skm psm dt arm kat o) (written p s)))
  /-- The read of a READ fails, or what it gave does not decode (R91, R92, R113). -/
  | readFails (e : OpError) : Ends s .read (answered (.error e) (readDone s))
  /-- A READ gets six bytes that decode (R92). -/
  | reads {b0 b1 b2 b3 b4 b5 : Byte} {f : StatusFrame} (hm : s.mode = .configured)
      (ho : nextReadOutcome s = some (.bytes [b0, b1, b2, b3, b4, b5])) (hd : decodeStatus b0 b1 b2 b3 b4 b5 = .ok f) :
      Ends s .read (answered (.ok .unit) (storeSnapshot f (readDone s)))

/-- Everything an instruction that answers a next state can have done. -/
theorem exec_ends {i : Instr} {s t : State} (h : exec i s = .next t) : Ends s i t := by
  cases hi : usesBus i with
  | false =>
    obtain ⟨r, hr⟩ := exec_answers hi s
    obtain rfl : answered r s = t := by simpa [hr] using h
    exact .answers hi r
  | true =>
    cases i with
    | configure s1 s2 s3 skm psm dt arm kat o =>
      obtain ⟨-, rfl⟩ | ⟨-, -, rfl⟩ | ⟨hm, hs, w, hw, rfl⟩ := exec_configure_next_iff.mp h
      · exact .refuses hi _
      · exact .refuses hi _
      · cases w with
        | success => exact .configures _ _ _ _ _ _ _ _ _ _ hm hs hw
        | transportError cause => exact .configureFails rfl _ hw
    | setCustomThreshold pad low med high =>
      obtain ⟨-, rfl⟩ | ⟨-, w, hw, rfl⟩ := exec_setCustomThreshold_next_iff.mp h
      · exact .refuses hi _
      · exact .sends rfl (by simp) _ hw
    | setSleepThreshold low med high =>
      obtain ⟨-, rfl⟩ | ⟨-, w, hw, rfl⟩ := exec_setSleepThreshold_next_iff.mp h
      · exact .refuses hi _
      · exact .sends rfl (by simp) _ hw
    | read =>
      obtain ⟨-, rfl⟩ | ⟨hm, o, ho, rfl⟩ := exec_read_next_iff.mp h
      · exact .refuses hi _
      · obtain ⟨e, he⟩ | ⟨b0, b1, b2, b3, b4, b5, f, rfl, hd, hf⟩ := finishRead_cases o (readDone s)
        · exact he ▸ .readFails e
        · exact hf ▸ .reads hm ho hd
    | _ => cases hi

/-! The step. -/

theorem step_run {s : State} {p : Presented} {rest : List HostMove} {i : Instr} (hs : s.script = .present p :: rest)
    (hd : decode p = .instr i) : step s = exec i { s with script := rest } := by
  rw [step, fetch_run hs hd]

theorem step_reset {s : State} {a : DeviceAddress} {rest : List HostMove} (hs : s.script = .reset a :: rest) :
    step s = .next (reinstantiate a { s with script := rest }) := by
  rw [step, fetch, hs]

end Sys2Proof.Machine
end

section
/-! The state of the block: MODE, CFG and SNAP, and the derived counts (10_state.md R12, R15, R16, R19). -/

namespace Sys2Proof.Machine

open Sys2Proof

@[simp] theorem Mode.ne_unconfigured_iff {m : Mode} : m ≠ .unconfigured ↔ m = .configured := by
  cases m <;> decide

/-- Only a CONFIGURE whose write succeeds changes MODE or CFG, and it is admitted only when Unconfigured. -/
theorem exec_configures_or_keeps {i : Instr} {s t : State} (h : exec i s = .next t) :
    (t.mode = s.mode ∧ t.cfg = s.cfg) ∨
    (s.mode = .unconfigured ∧ nextWriteOutcome s = some .success ∧ t.mode = .configured ∧
      t.results = .ok .unit :: s.results ∧
      ∃ s1 s2 s3 skm psm dt arm kat o, i = .configure s1 s2 s3 skm psm dt arm kat o) := by
  cases exec_ends h with
  | configures s1 s2 s3 skm psm dt arm kat o p hm hs hw =>
    exact .inr ⟨hm, hw, rfl, by simp, s1, s2, s3, skm, psm, dt, arm, kat, o, rfl⟩
  | answers | refuses | sends | configureFails | readFails | reads => simp

theorem sliderCount_eq_length_filter (s1 s2 s3 : Nat) :
    sliderCount s1 s2 s3 = ([s1, s2, s3].filter (fun v => v ≠ 0)).length := by
  simp only [sliderCount, ← List.countP_eq_length_filter, List.countP_cons, List.countP_nil, Bool.toNat, cond_eq_ite]
  omega

/-- Settles O25: the held `nbk` is what `presentedConfig` resolves, since only a CONFIGURE that stores it enters Configured. -/
theorem derivedCounts : Obligations.DerivedCounts := by
  refine ⟨fun s1 s2 s3 => ⟨sliderCount_eq_length_filter s1 s2 s3, ?_⟩, ?_⟩
  · rw [sliderCount_eq_length_filter]
    exact List.length_filter_le _ _
  · intro s t s1 s2 s3 skm psm dt arm kat o hm h ht
    obtain ⟨hc, -⟩ | ⟨-, -, rfl⟩ | ⟨-, hs, w, -, rfl⟩ := exec_configure_next_iff.mp h
    · simp [hm] at hc
    · simp [hm] at ht
    · cases w with
      | transportError cause => simp [hm] at ht
      | success =>
        refine ⟨_, rfl, ?_, ?_⟩
        · rintro n rfl
          rfl
        · rintro rfl
          simp only [presentedConfig, Option.getD_none]
          omega

/-- Settles O33: a step that changes MODE is a reset move or runs a CONFIGURE whose write succeeds. -/
theorem modeChangesOnlyByConfigureAndReset : Obligations.ModeChangesOnlyByConfigureAndReset := by
  refine ⟨fun s t h hne => ?_, fun s p rest s1 s2 s3 skm psm dt arm kat o hs hd hm hsum hw => ?_, fun s a rest hs => ?_⟩
  · obtain ⟨-, rfl⟩ | ⟨a, rest, hs, rfl⟩ | ⟨p, rest, i, hs, hd, he⟩ := step_next h
    · exact absurd rfl hne
    · exact .inr ⟨by simpa using hne.symm, rfl, a, rest, hs⟩
    · obtain ⟨hkeep, -⟩ | ⟨hm, hw, ht, hr, s1, s2, s3, skm, psm, dt, arm, kat, o, rfl⟩ := exec_configures_or_keeps he
      · exact absurd hkeep hne
      · exact .inl ⟨hm, ht, hw, hr, p, rest, s1, s2, s3, skm, psm, dt, arm, kat, o, hs, hd⟩
  · exact ⟨_, (step_run hs hd).trans (exec_configure_of_write_success hm hsum hw), rfl⟩
  · exact ⟨_, step_reset hs, rfl⟩

/-- Settles O35: the one operation that writes CFG is not admitted when Configured, and is no threshold operation. -/
theorem configurationIsImmutable : Obligations.ConfigurationIsImmutable := by
  intro i s t h
  obtain ⟨-, hkeep⟩ | ⟨hm, -, -, -, s1, s2, s3, skm, psm, dt, arm, kat, o, rfl⟩ := exec_configures_or_keeps h
  · exact ⟨fun _ => hkeep, fun _ _ _ _ _ => hkeep⟩
  · exact ⟨fun hc => by simp [hm] at hc, fun _ _ _ _ hi => by simp at hi⟩

/-- Settles O36: of the ways an instruction ends, only a READ that decodes six bytes writes SNAP, and a READ that ends in another
way answers an error. -/
theorem snapshotIsWrittenOnlyByRead : Obligations.SnapshotIsWrittenOnlyByRead := by
  intro i s t h
  cases exec_ends h with
  | answers hi r =>
    refine ⟨fun _ => rfl, ?_⟩
    rintro rfl
    cases hi
  | refuses hi e => exact ⟨fun _ => rfl, fun _ => .inl ⟨e, rfl, rfl⟩⟩
  | sends hi hr p hw => exact ⟨fun _ => by simp, fun hread => absurd hread hr⟩
  | configureFails hi p hw =>
    refine ⟨fun _ => by simp, ?_⟩
    rintro rfl
    cases hi
  | configures => exact ⟨fun _ => by simp, nofun⟩
  | readFails e => exact ⟨fun hr => absurd rfl hr, fun _ => .inl ⟨e, by simp, by simp⟩⟩
  | reads hm ho hd => exact ⟨fun hr => absurd rfl hr, fun _ => .inr ⟨_, _, _, _, _, _, _, ho, hd, rfl, by simp⟩⟩

end Sys2Proof.Machine
end

section
/-! The bus: what a transport error comes to (20_memory.md R46). -/

namespace Sys2Proof.Machine

open Sys2Proof

@[simp] theorem finishRead_transportError (cause : TransportCause) (s : State) :
    finishRead (.transportError cause) s = answered (.error (.transportError cause)) s := rfl

/-- An operation whose bus write fails ends in the one `answered` state that hands on the cause (R46). -/
theorem exec_of_write_failure {i : Instr} {s t : State} {cause : TransportCause} (h : exec i s = .next t)
    (hbus : t.bus ≠ s.bus) (hi : i ≠ .read) (hw : nextWriteOutcome s = some (.transportError cause)) :
    ∃ p, t = answered (.error (.transportError cause)) (written p s) := by
  cases exec_ends h with
  | answers | refuses => exact absurd rfl hbus
  | sends _ _ p hw' =>
    obtain rfl := Option.some.inj (hw'.symm.trans hw)
    exact ⟨p, rfl⟩
  | configureFails _ p hw' =>
    obtain rfl := WriteOutcome.transportError.inj (Option.some.inj (hw'.symm.trans hw))
    exact ⟨p, rfl⟩
  | configures _ _ _ _ _ _ _ _ _ _ _ _ hw' => cases hw'.symm.trans hw
  | readFails | reads => exact absurd rfl hi

/-- A READ whose bus read fails ends in the one `answered` state that hands on the cause (R46). -/
theorem exec_read_of_read_failure {s t : State} {cause : TransportCause} (h : exec .read s = .next t)
    (hbus : t.bus ≠ s.bus) (ho : nextReadOutcome s = some (.transportError cause)) :
    t = answered (.error (.transportError cause)) (readDone s) := by
  obtain ⟨-, rfl⟩ | ⟨-, o, ho', rfl⟩ := exec_read_next_iff.mp h
  · exact absurd rfl hbus
  · obtain rfl := Option.some.inj (ho'.symm.trans ho)
    exact finishRead_transportError cause _

/-- Settles O39: after a failed bus call the state is the one `written` or `readDone` leaves, each with one more transaction, and
the answer carries the cause. -/
theorem transportErrorPassesUnmodified : Obligations.TransportErrorPassesUnmodified := by
  intro i s t cause h
  refine ⟨fun hbus hi hw => ?_, fun hbus hi ho => ?_⟩
  · obtain ⟨p, rfl⟩ := exec_of_write_failure h hbus hi hw
    exact ⟨by simp, _, written_bus p s⟩
  · subst hi
    obtain rfl := exec_read_of_read_failure h hbus ho
    exact ⟨by simp, _, readDone_bus s⟩

end Sys2Proof.Machine
end

section
/-! The values of the bytes the builders make (30_encoding.md R50 to R52, R56, R60, R65) and what a threshold operation puts on the
bus (41_threshold_frame.md R81, R83). -/

namespace Sys2Proof.Machine

open Sys2Proof

/-! Fields drawn side by side, as numbers. -/

theorem toNat_append_ofNat_mod {m n : Nat} (x : BitVec m) (v : Nat) :
    (x ++ BitVec.ofNat n (v % 2 ^ n)).toNat = x.toNat * 2 ^ n + v % 2 ^ n := by
  have hv : v % 2 ^ n < 2 ^ n := Nat.mod_lt _ (Nat.two_pow_pos n)
  rw [BitVec.toNat_append, BitVec.toNat_ofNat, Nat.mod_mod, ← Nat.shiftLeft_add_eq_or_of_lt hv, Nat.shiftLeft_eq]

theorem toNat_append_nibble (x : BitVec 4) (v : Nat) :
    (x ++ BitVec.ofNat 4 (v % 16)).toNat = x.toNat * 16 + v % 16 :=
  toNat_append_ofNat_mod x v

theorem toNat_nibbles (hi lo : Nat) :
    (BitVec.ofNat 4 (hi % 16) ++ BitVec.ofNat 4 (lo % 16)).toNat = hi % 16 * 16 + lo % 16 := by
  rw [toNat_append_nibble, BitVec.toNat_ofNat, Nat.mod_mod]

theorem toNat_low_nibble (v : Nat) : (0#4 ++ BitVec.ofNat 4 (v % 16)).toNat = v % 16 := by
  simp [toNat_append_nibble]

theorem toNat_key_count_div (nbk ack : Nat) :
    (BitVec.ofNat 5 (nbk % 32) ++ BitVec.ofNat 3 (ack % 8)).toNat / 8 = nbk % 32 := by
  have h : (BitVec.ofNat 5 (nbk % 32) ++ BitVec.ofNat 3 (ack % 8)).toNat = nbk % 32 % 32 * 8 + ack % 8 :=
    toNat_append_ofNat_mod (BitVec.ofNat 5 (nbk % 32)) ack
  omega

/-! The initialization frame. -/

theorem configByte0_mode_bits (bit6 : BitVec 1) (skm psm dt : Bool) (arm : BitVec 2) :
    (configByte0 bit6 skm psm dt arm).getLsbD 5 = skm ∧ (configByte0 bit6 skm psm dt arm).getLsbD 3 = psm ∧
      (configByte0 bit6 skm psm dt arm).getLsbD 2 = dt ∧ (configByte0 bit6 skm psm dt arm).extractLsb' 0 2 = arm := by
  revert bit6 skm psm dt arm; decide

section
variable {s1 s2 s3 kat nbk : Nat} {skm psm dt : Bool} {arm : BitVec 2} {o : Option Nat}

theorem encodeConfigWith_first_byte {bit6 : BitVec 1} {frame : List Byte}
    (h : encodeConfigWith bit6 s1 s2 s3 skm psm dt arm kat o = .ok (frame, nbk)) :
    frame[0]? = some (configByte0 bit6 skm psm dt arm) := by
  unfold encodeConfigWith at h
  split at h
  · cases h
  · cases h
    rfl

theorem encodeConfig_of_le (hs : s1 + s2 + s3 ≤ 16) :
    encodeConfig s1 s2 s3 skm psm dt arm kat o =
      .ok (drawnConfigFrame s1 s2 s3 skm psm dt arm kat (o.getD (16 - (s1 + s2 + s3))), o.getD (16 - (s1 + s2 + s3))) := by
  rw [encodeConfig_eq, if_neg (Nat.not_lt.mpr hs)]

theorem encodeConfig_of_gt (hs : s1 + s2 + s3 > 16) :
    encodeConfig s1 s2 s3 skm psm dt arm kat o = .error .configError := by
  rw [encodeConfig_eq, if_pos hs]

theorem drawnConfigFrame_key_count :
    (drawnConfigFrame s1 s2 s3 skm psm dt arm kat nbk)[1]?.map (·.toNat / 8) = some (nbk % 32) :=
  congrArg some (toNat_key_count_div nbk (kat + 7))

theorem encodeConfig_key_count (hs : s1 + s2 + s3 ≤ 16) :
    ∃ frame b, encodeConfig s1 s2 s3 skm psm dt arm kat o = .ok (frame, o.getD (16 - (s1 + s2 + s3))) ∧
      frame[1]? = some b ∧ b.toNat / 8 = o.getD (16 - (s1 + s2 + s3)) % 32 :=
  have ⟨b, hb, hfield⟩ := Option.map_eq_some_iff.mp drawnConfigFrame_key_count
  ⟨_, b, encodeConfig_of_le hs, hb, hfield⟩

theorem drawnConfigFrame_pad_counts :
    ((drawnConfigFrame s1 s2 s3 skm psm dt arm kat nbk).drop 2).map (·.toNat) = [s2 % 16 * 16 + s1 % 16, s3 % 16] := by
  simp only [drawnConfigFrame, List.drop, List.map, toNat_nibbles, toNat_low_nibble]

theorem drawnConfigFrame_mod :
    drawnConfigFrame (s1 % 16) (s2 % 16) (s3 % 16) skm psm dt arm kat (nbk % 32) =
      drawnConfigFrame s1 s2 s3 skm psm dt arm kat nbk := by
  simp only [drawnConfigFrame, Nat.mod_mod]

theorem drawnConfigFrame_add_eight :
    drawnConfigFrame s1 s2 s3 skm psm dt arm (kat + 8) nbk = drawnConfigFrame s1 s2 s3 skm psm dt arm kat nbk := by
  simp only [drawnConfigFrame, Nat.add_right_comm kat 8 7, Nat.add_mod_right]

end

/-! The threshold frames and the operations that send them. -/

theorem encodeCustomThreshold_toNat (pad low med high : Nat) :
    (encodeCustomThreshold pad low med high).map (·.toNat) = [0xC0 + pad % 16, med % 16 * 16 + low % 16, high % 16] := by
  simp only [encodeCustomThreshold_eq, drawnCustomThresholdFrame, List.map, toNat_nibbles, toNat_low_nibble,
    toNat_append_nibble 0b1100#4]
  rfl

theorem encodeSleepThreshold_toNat (low med high : Nat) :
    (encodeSleepThreshold low med high).map (·.toNat) = [0xD0, med % 16 * 16 + low % 16, high % 16] := by
  simp only [encodeSleepThreshold_eq, drawnSleepThresholdFrame, List.map, toNat_nibbles, toNat_low_nibble]
  rfl

theorem encodeCustomThreshold_mod (pad low med high : Nat) :
    encodeCustomThreshold (pad % 16) (low % 16) (med % 16) (high % 16) = encodeCustomThreshold pad low med high := by
  simp only [encodeCustomThreshold_eq, drawnCustomThresholdFrame, Nat.mod_mod]

theorem encodeSleepThreshold_mod (low med high : Nat) :
    encodeSleepThreshold (low % 16) (med % 16) (high % 16) = encodeSleepThreshold low med high := by
  simp only [encodeSleepThreshold_eq, drawnSleepThresholdFrame, Nat.mod_mod]

theorem exec_setCustomThreshold (s : State) (pad low med high : Nat) :
    exec (.setCustomThreshold pad low med high) s =
      whenConfigured s (sendFrame (encodeCustomThreshold pad low med high) s) := rfl

theorem exec_setSleepThreshold (s : State) (low med high : Nat) :
    exec (.setSleepThreshold low med high) s = whenConfigured s (sendFrame (encodeSleepThreshold low med high) s) := rfl

/-- A threshold operation that reaches the bus makes one write of its frame (R36). -/
theorem whenConfigured_sendFrame_bus {p : List Byte} {s t : State} (h : whenConfigured s (sendFrame p s) = .next t)
    (hbus : t.bus ≠ s.bus) : t.bus = .write (0#1 ++ s.deviceAddress) p :: s.bus := by
  obtain ⟨-, rfl⟩ | ⟨-, w, -, rfl⟩ := whenConfigured_sendFrame_next_iff.mp h
  · exact absurd rfl hbus
  · exact written_bus p s

/-! The statements. -/

/-- Settles O22: the frame begins with `configByte0`, whose mode bits are its operands for either value of bit 6. -/
theorem modeBitsRoundTrip : Obligations.ModeBitsRoundTrip := by
  intro bit6 s1 s2 s3 skm psm dt arm kat o frame nbk h
  exact ⟨_, encodeConfigWith_first_byte h, configByte0_mode_bits bit6 skm psm dt arm⟩

/-- Settles O23: the field of the drawn frame is the key count modulo 32, and the derived count is below 32. -/
theorem keyCountField : Obligations.KeyCountField := by
  intro s1 s2 s3 skm psm dt arm kat hs
  have hderived : 16 - (s1 + s2 + s3) < 32 := by omega
  exact ⟨by simpa only [Option.getD_none, Nat.mod_eq_of_lt hderived] using encodeConfig_key_count (o := none) hs,
    fun n => encodeConfig_key_count (o := some n) hs⟩

/-- Settles O27: the drawn frames hold every operand modulo the width of its field, so masking it first changes nothing, and the
one condition `encodeConfig` tests is the pad sum, which masking does not raise. -/
theorem operandsAreMaskedSilently : Obligations.OperandsAreMaskedSilently := by
  refine ⟨fun s pad low med high => ⟨?_, encodeCustomThreshold_toNat pad low med high⟩,
    fun s low med high => ⟨?_, encodeSleepThreshold_toNat low med high⟩,
    fun _ _ _ _ _ _ _ _ _ hs => encodeConfig_of_gt hs,
    fun s1 s2 s3 skm psm dt arm kat o hs =>
      ⟨_, _, encodeConfig_of_le hs, rfl, ?_, fun _ => ?_, drawnConfigFrame_key_count, drawnConfigFrame_pad_counts⟩⟩
  · rw [exec_setCustomThreshold, exec_setCustomThreshold, encodeCustomThreshold_mod]
  · rw [exec_setSleepThreshold, exec_setSleepThreshold, encodeSleepThreshold_mod]
  · have hmasked : s1 % 16 + s2 % 16 + s3 % 16 ≤ 16 := by omega
    rw [encodeConfig_of_le hmasked, Option.getD_some, drawnConfigFrame_mod]
  · rw [encodeConfig_of_le hs, drawnConfigFrame_add_eight]

/-- Settles O29: the three bytes are those of the drawn frame, and the only transaction of an admitted operation writes them. -/
theorem customThresholdFrameBytes : Obligations.CustomThresholdFrameBytes :=
  ⟨fun pad low med high => ⟨_, _, _, encodeCustomThreshold_eq pad low med high, toNat_append_nibble 0b1100#4 pad,
      toNat_nibbles med low, toNat_low_nibble high⟩,
    fun _ _ _ _ _ _ h => whenConfigured_sendFrame_bus h⟩

/-- Settles O30: the three bytes are those of the drawn frame, and the only transaction of an admitted operation writes them. -/
theorem sleepThresholdFrameBytes : Obligations.SleepThresholdFrameBytes :=
  ⟨fun low med high => ⟨_, _, _, encodeSleepThreshold_eq low med high, rfl, toNat_nibbles med low, toNat_low_nibble high⟩,
    fun _ _ _ _ _ h => whenConfigured_sendFrame_bus h⟩

end Sys2Proof.Machine
end

section
/-! The one check of the ConfigFrame Builder (40_config_frame.md R71). -/

namespace Sys2Proof.Machine

open Sys2Proof

/-- The check is on the exact sum of the operands, before any mask (R71). -/
theorem padsExceed_iff (s1 s2 s3 : Nat) : padsExceed s1 s2 s3 = true ↔ s1 + s2 + s3 > 16 := by
  simp [padsExceed, padTotal, Config.padsTotal]

section
variable {bit6 : BitVec 1} {s1 s2 s3 kat : Nat} {skm psm dt : Bool} {arm : BitVec 2} {o : Option Nat}

theorem encodeConfigWith_of_gt (hs : s1 + s2 + s3 > 16) :
    encodeConfigWith bit6 s1 s2 s3 skm psm dt arm kat o = .error .configError := by
  rw [encodeConfigWith, if_pos ((padsExceed_iff s1 s2 s3).mpr hs)]

theorem encodeConfigWith_ne_error_of_le (hs : s1 + s2 + s3 ≤ 16) (e : OpError) :
    encodeConfigWith bit6 s1 s2 s3 skm psm dt arm kat o ≠ .error e := by
  rw [encodeConfigWith, if_neg (mt (padsExceed_iff s1 s2 s3).mp (Nat.not_lt.mpr hs))]
  intro h
  cases h

end

/-- Settles O21: above 16 the answer is `ConfigError` whatever the other operands are, and up to 16 it is no error at all. -/
theorem onlyThePadSumIsValidated : Obligations.OnlyThePadSumIsValidated := by
  intro bit6 s1 s2 s3 skm psm dt arm kat o e
  constructor
  · intro h
    have hs : s1 + s2 + s3 > 16 := Nat.not_le.mp fun hle => encodeConfigWith_ne_error_of_le hle e h
    exact ⟨hs, Except.error.inj (h.symm.trans (encodeConfigWith_of_gt hs))⟩
  · rintro ⟨hs, rfl⟩
    exact encodeConfigWith_of_gt hs

end Sys2Proof.Machine
end

section
/-! The one check of the StatusFrame Decoder (42_status_frame.md R91). -/

namespace Sys2Proof.Machine

open Sys2Proof

theorem decodeStatus_of_uncalibrated {b0 : Byte} (h : b0.getLsbD 7 = false) (b1 b2 b3 b4 b5 : Byte) :
    decodeStatus b0 b1 b2 b3 b4 b5 = .error .calibrationError := by
  rw [decodeStatus_eq, if_neg (Bool.eq_false_iff.mp h)]

theorem decodeStatus_of_calibrated {b0 : Byte} (h : b0.getLsbD 7 = true) (b1 b2 b3 b4 b5 : Byte) :
    decodeStatus b0 b1 b2 b3 b4 b5 = .ok (drawnStatus b0 b1 b2 b3 b4 b5) := by
  rw [decodeStatus_eq, if_pos h]

/-- Settles O31: the decoder's one test is bit 7 of byte 0; when it is set, the frame as drawn in R53 is the answer. -/
theorem decoderFailsOnBitSevenAlone : Obligations.DecoderFailsOnBitSevenAlone := fun _ b1 b2 b3 b4 b5 =>
  ⟨fun hclear => decodeStatus_of_uncalibrated hclear b1 b2 b3 b4 b5,
    fun hset => ⟨_, decodeStatus_of_calibrated hset b1 b2 b3 b4 b5⟩⟩

end Sys2Proof.Machine
end

section
/-! The accessors in the window between two successful READs (43_accessors.md R103): when Configured their result is a function of
the operand and SNAP, and every instruction but a successful READ leaves MODE and SNAP as they are. -/

namespace Sys2Proof.Machine

open Sys2Proof

/-- When Configured, SNAP alone fixes what BUTTON answers (R100). -/
theorem exec_button_determined_by_snap (n : Nat) (snap : Option StatusFrame) :
    ∃ r, ∀ s : State, s.mode = .configured → s.snap = snap → exec (.button n) s = .next (answered r s) := by
  cases snap with
  | none =>
    exact ⟨.error .noSnapshot, fun _ hm hf => (whenConfigured_configured hm _).trans (withSnapshot_none hf _)⟩
  | some f =>
    exact ⟨.ok (.bit (buttonBit f.buttons n)), fun _ hm hf =>
      (whenConfigured_configured hm _).trans (withSnapshot_some hf _)⟩

/-- When Configured, SNAP alone fixes what SLIDER answers, and an operand outside 1..3 is refused whatever SNAP is (R101). -/
theorem exec_slider_determined_by_snap (n : Nat) (snap : Option StatusFrame) :
    ∃ r, ∀ s : State, s.mode = .configured → s.snap = snap → exec (.slider n) s = .next (answered r s) := by
  change ∃ r, ∀ s : State, _ → _ → execSlider n s = _
  unfold execSlider
  cases sliderIndex n with
  | none => exact ⟨.error .operandFault, fun _ hm _ => whenConfigured_configured hm _⟩
  | some i =>
    cases snap with
    | none =>
      exact ⟨.error .noSnapshot, fun _ hm hf => (whenConfigured_configured hm _).trans (withSnapshot_none hf _)⟩
    | some f =>
      exact ⟨.ok (.touch (sliderTouch f i) (sliderPosition f i)), fun _ hm hf =>
        (whenConfigured_configured hm _).trans (withSnapshot_some hf _)⟩

theorem exec_accessor_determined_by_snap {a : Instr} (ha : isAccessor a = true) (snap : Option StatusFrame) :
    ∃ r, ∀ s : State, s.mode = .configured → s.snap = snap → exec a s = .next (answered r s) := by
  cases a with
  | button n => exact exec_button_determined_by_snap n snap
  | slider n => exact exec_slider_determined_by_snap n snap
  | _ => cases ha

theorem exec_keeps_configured {i : Instr} {s t : State} (h : exec i s = .next t) (hm : s.mode = .configured) :
    t.mode = .configured := by
  obtain ⟨hkeep, -⟩ | ⟨-, -, ht, -⟩ := exec_configures_or_keeps h
  · exact hkeep.trans hm
  · exact ht

/-- Whatever is not a successful READ leaves SNAP (R19). -/
theorem exec_keeps_snap {i : Instr} {s t : State} (h : exec i s = .next t)
    (hread : i = .read → t.results ≠ .ok .unit :: s.results) : t.snap = s.snap := by
  obtain ⟨hother, hreads⟩ := snapshotIsWrittenOnlyByRead i s t h
  by_cases hi : i = .read
  · obtain ⟨-, -, hkeep⟩ | ⟨_, _, _, _, _, _, _, -, -, -, hok⟩ := hreads hi
    · exact hkeep
    · exact absurd hok (hread hi)
  · exact hother hi

/-- Settles O42: the instruction between keeps Configured and SNAP, and these fix what the accessor answers. -/
theorem accessorsAreIdempotent : Obligations.AccessorsAreIdempotent := by
  intro a i s t ha hm h hread
  obtain ⟨r, hr⟩ := exec_accessor_determined_by_snap ha s.snap
  exact ⟨r, hr s hm rfl, hr t (exec_keeps_configured h hm) (exec_keeps_snap h hread)⟩

end Sys2Proof.Machine
end

section
/-! Errors (60_exceptions.md R115): the operation ends, its error is the result, and no state of the block is written. -/

namespace Sys2Proof.Machine

open Sys2Proof

/-- Settles O37: every ending answers once. The two that write a register, a CONFIGURE whose write succeeds and a READ that decodes,
answer `()`; the others at most call the bus, which touches no register. -/
theorem errorsWriteNoState : Obligations.ErrorsWriteNoState := by
  intro i s t h
  cases exec_ends h with
  | configures | reads => exact ⟨.ok .unit, by simp, nofun⟩
  | answers _ r => exact ⟨r, rfl, by simp⟩
  | refuses _ e => exact ⟨.error e, rfl, by simp⟩
  | @sends _ _ _ _ w => exact ⟨writeResult w, by simp, by simp⟩
  | @configureFails _ _ _ cause => exact ⟨.error (.transportError cause), by simp, by simp⟩
  | readFails e => exact ⟨.error e, by simp, by simp⟩

end Sys2Proof.Machine
end

section
/-! Decoding and encoding are inverse to each other (30_encoding.md R50 to R53, R57, R63), row by row of the table. -/

namespace Sys2Proof

/-! A byte and its fields. -/

theorem bitsOf_nibbles_high (hi lo : BitVec 4) : bitsOf (hi ++ lo) 4 4 = hi := BitVec.extractLsb'_append_eq_left
theorem bitsOf_nibbles_low (hi lo : BitVec 4) : bitsOf (hi ++ lo) 0 4 = lo := BitVec.extractLsb'_append_eq_right
theorem bitsOf_five_three_high (hi : BitVec 5) (lo : BitVec 3) : bitsOf (hi ++ lo) 3 5 = hi :=
  BitVec.extractLsb'_append_eq_left
theorem bitsOf_five_three_low (hi : BitVec 5) (lo : BitVec 3) : bitsOf (hi ++ lo) 0 3 = lo :=
  BitVec.extractLsb'_append_eq_right
theorem bitsOf_one_seven_low (hi : BitVec 1) (lo : BitVec 7) : bitsOf (hi ++ lo) 0 7 = lo :=
  BitVec.extractLsb'_append_eq_right

theorem nibbles_bitsOf (b : Byte) : bitsOf b 4 4 ++ bitsOf b 0 4 = b :=
  (BitVec.extractLsb'_append_extractLsb'_eq_extractLsb' rfl).trans BitVec.extractLsb'_eq_self
theorem five_three_bitsOf (b : Byte) : bitsOf b 3 5 ++ bitsOf b 0 3 = b :=
  (BitVec.extractLsb'_append_extractLsb'_eq_extractLsb' rfl).trans BitVec.extractLsb'_eq_self

/-- A byte whose high nibble is fixed, by mask and match, is that nibble and its low one. -/
theorem fixed_nibble_bitsOf {v : BitVec 4} {b : Byte} (h : b &&& 0xF0#8 = v ++ 0#4) : v ++ bitsOf b 0 4 = b := by
  revert v b; decide

theorem configFrame_byte0_bitsOf {b : Byte} (h : b &&& 0xD0#8 = 0x90#8) :
    1#1 ++ 0#1 ++ flagBit (b.getLsbD 5) ++ 1#1 ++ flagBit (b.getLsbD 3) ++ flagBit (b.getLsbD 2) ++ bitsOf b 0 2 = b := by
  revert b; decide

theorem statusFrame_byte0_fields (u : BitVec 4) (st2 st1 st0 : Bool) :
    let b : Byte := 1#1 ++ u ++ flagBit st2 ++ flagBit st1 ++ flagBit st0
    b.getLsbD 7 = true ∧ bitsOf b 3 4 = u ∧ b.getLsbD 2 = st2 ∧ b.getLsbD 1 = st1 ∧ b.getLsbD 0 = st0 := by
  revert u st2 st1 st0; decide

theorem statusFrame_byte0_bitsOf {b : Byte} (h : b.getLsbD 7 = true) :
    1#1 ++ bitsOf b 3 4 ++ flagBit (b.getLsbD 2) ++ flagBit (b.getLsbD 1) ++ flagBit (b.getLsbD 0) = b := by
  revert b; decide

theorem uncalibrated_byte0_bit_seven (u : BitVec 7) : (0#1 ++ u : Byte).getLsbD 7 = false := by
  revert u; decide

theorem uncalibrated_byte0_bitsOf {b : Byte} (h : b.getLsbD 7 = false) : 0#1 ++ bitsOf b 0 7 = b := by
  revert b; decide

/-! From an instruction to its frame and back. -/

theorem decode_encode_configFrame (skm psm dt : Bool) (arm : BitVec 2) (nbk : BitVec 5) (katm1 : BitVec 3)
    (s2p s1p s3p : BitVec 4) :
    decode (encode (.configFrame skm psm dt arm nbk katm1 s2p s1p s3p)) =
      .instr (.configFrame skm psm dt arm nbk katm1 s2p s1p s3p) := by
  obtain ⟨h0, -, -, h3, -⟩ := Laws.RowEncoding.configFrame skm psm dt arm nbk katm1 s2p s1p s3p
  obtain ⟨hskm, hpsm, hdt, harm⟩ := Machine.configByte0_mode_bits Config.configByte0Bit6 skm psm dt arm
  rw [Machine.configByte0_eq] at hskm hpsm hdt harm
  refine (if_neg (not_not.mpr h0)).trans ((if_neg (not_not.mpr h3)).trans ?_)
  rw [hskm, hpsm, hdt, bitsOf, harm,
    bitsOf_five_three_high, bitsOf_five_three_low, bitsOf_nibbles_high, bitsOf_nibbles_low, bitsOf_nibbles_low]

theorem decode_encode_customThresholdFrame (pad med low high : BitVec 4) :
    decode (encode (.customThresholdFrame pad med low high)) = .instr (.customThresholdFrame pad med low high) := by
  obtain ⟨h0, -, h2, -⟩ := Laws.RowEncoding.customThresholdFrame pad med low high
  refine (if_pos h0).trans ((if_neg (not_not.mpr h2)).trans ?_)
  rw [bitsOf_nibbles_low, bitsOf_nibbles_high, bitsOf_nibbles_low, bitsOf_nibbles_low]

theorem decode_encode_sleepThresholdFrame (med low high : BitVec 4) :
    decode (encode (.sleepThresholdFrame med low high)) = .instr (.sleepThresholdFrame med low high) := by
  obtain ⟨-, -, h2, -⟩ := Laws.RowEncoding.sleepThresholdFrame med low high
  refine (if_neg (not_not.mpr h2)).trans ?_
  rw [bitsOf_nibbles_high, bitsOf_nibbles_low, bitsOf_nibbles_low]

theorem decode_encode_statusFrame (u : BitVec 4) (st2 st1 st0 : Bool) (l h p q r : Byte) :
    decode (encode (.statusFrame u st2 st1 st0 l h p q r)) = .instr (.statusFrame u st2 st1 st0 l h p q r) := by
  obtain ⟨h7, hu, h2, h1, h0⟩ := statusFrame_byte0_fields u st2 st1 st0
  change decodeStatusBytes _ _ _ _ _ _ = _
  rw [decodeStatusBytes, if_pos h7, hu, h2, h1, h0]

theorem decode_encode_statusFrameUncalibrated (u : BitVec 7) (b1 b2 b3 b4 b5 : Byte) :
    decode (encode (.statusFrameUncalibrated u b1 b2 b3 b4 b5)) = .instr (.statusFrameUncalibrated u b1 b2 b3 b4 b5) := by
  change decodeStatusBytes _ _ _ _ _ _ = _
  rw [decodeStatusBytes, if_neg (Bool.eq_false_iff.mp (uncalibrated_byte0_bit_seven u)), bitsOf_one_seven_low]

theorem decode_encode_illegalOp (x : BitVec 1) : decode (encode (.illegalOp x)) = .instr (.illegalOp x) := by
  revert x; decide

/-- Settles O2: row by row, each field is read from where the encoder puts it, and the fixed bits are those of the row. -/
theorem decodeOfEncodeIsTheInstruction : Obligations.DecodeOfEncodeIsTheInstruction := by
  intro i
  cases i with
  | configFrame => exact decode_encode_configFrame ..
  | customThresholdFrame => exact decode_encode_customThresholdFrame ..
  | sleepThresholdFrame => exact decode_encode_sleepThresholdFrame ..
  | statusFrame => exact decode_encode_statusFrame ..
  | statusFrameUncalibrated => exact decode_encode_statusFrameUncalibrated ..
  | illegalOp => exact decode_encode_illegalOp _
  | configure | setCustomThreshold | setSleepThreshold | read | button | slider => rfl

/-! From a frame to its instruction and back. -/

theorem encode_of_decodeConfigFrame {b0 b1 b2 b3 : Byte} {i : Instr} (h : decodeConfigFrame b0 b1 b2 b3 = .instr i) :
    encode i = .frame [b0, b1, b2, b3] := by
  rw [decodeConfigFrame] at h
  split_ifs at h with h0 h3
  obtain rfl := Decoded.instr.inj h
  rw [encode, configFrame_byte0_bitsOf (not_not.mp h0), five_three_bitsOf, nibbles_bitsOf,
    fixed_nibble_bitsOf (not_not.mp h3)]

theorem encode_of_decodeThresholdFrame {b0 b1 b2 : Byte} {i : Instr} (h : decodeThresholdFrame b0 b1 b2 = .instr i) :
    encode i = .frame [b0, b1, b2] := by
  rw [decodeThresholdFrame] at h
  split_ifs at h with hcustom hreserved hsleep hreserved
  · obtain rfl := Decoded.instr.inj h
    rw [encode, fixed_nibble_bitsOf hcustom, nibbles_bitsOf, fixed_nibble_bitsOf (not_not.mp hreserved)]
  · obtain rfl := Decoded.instr.inj h
    rw [encode, hsleep, nibbles_bitsOf, fixed_nibble_bitsOf (not_not.mp hreserved)]

theorem encode_of_decodeStatusBytes {b0 b1 b2 b3 b4 b5 : Byte} {i : Instr}
    (h : decodeStatusBytes b0 b1 b2 b3 b4 b5 = .instr i) : encode i = .frame [b0, b1, b2, b3, b4, b5] := by
  rw [decodeStatusBytes] at h
  split_ifs at h with h7
  · obtain rfl := Decoded.instr.inj h
    rw [encode, statusFrame_byte0_bitsOf h7]
  · obtain rfl := Decoded.instr.inj h
    rw [encode, uncalibrated_byte0_bitsOf (Bool.eq_false_iff.mpr h7)]

/-- Settles O3: by the length of the frame; the fields are all the bits the row's mask leaves free. -/
theorem decodedFrameEncodesBack : Obligations.DecodedFrameEncodesBack := by
  intro bytes i h
  change decodeFrame bytes = _ at h
  unfold decodeFrame at h
  split at h
  · exact encode_of_decodeThresholdFrame h
  · exact encode_of_decodeConfigFrame h
  · exact encode_of_decodeStatusBytes h
  · cases h

end Sys2Proof
end

section
/-! The bytes of the built frames, and which of them the block may put on the bus (30_encoding.md R55, R57, R58, R59). -/

namespace Sys2Proof.Machine

open Sys2Proof

/-! A field that fits is drawn as it is. -/

theorem ofNat_toNat_mod {n : Nat} (v : BitVec n) : BitVec.ofNat n (v.toNat % 2 ^ n) = v := by
  rw [Nat.mod_eq_of_lt v.isLt, BitVec.ofNat_toNat, BitVec.setWidth_eq]

theorem ofNat_toNat_nibble (v : BitVec 4) : BitVec.ofNat 4 (v.toNat % 16) = v := ofNat_toNat_mod v

/-! The initialization frame. -/

theorem toNat_acknowledge_mod (nbk ack : Nat) :
    (BitVec.ofNat 5 (nbk % 32) ++ BitVec.ofNat 3 (ack % 8)).toNat % 8 = ack % 8 := by
  have h : (BitVec.ofNat 5 (nbk % 32) ++ BitVec.ofNat 3 (ack % 8)).toNat = nbk % 32 % 32 * 8 + ack % 8 :=
    toNat_append_ofNat_mod (BitVec.ofNat 5 (nbk % 32)) ack
  omega

theorem configByte0_range_bit6_clear (skm psm dt : Bool) (arm : BitVec 2) :
    let b := (configByte0 0#1 skm psm dt arm).toNat
    (0x90 ≤ b ∧ b ≤ 0x9F) ∨ (0xB0 ≤ b ∧ b ≤ 0xBF) := by
  revert skm psm dt arm; decide

theorem configByte0_range_bit6_set (skm psm dt : Bool) (arm : BitVec 2) :
    let b := (configByte0 1#1 skm psm dt arm).toNat
    (0xD0 ≤ b ∧ b ≤ 0xDF) ∨ (0xF0 ≤ b ∧ b ≤ 0xFF) := by
  revert skm psm dt arm; decide

section
variable {s1 s2 s3 kat nbk : Nat} {skm psm dt : Bool} {arm : BitVec 2} {o : Option Nat}

theorem encodeConfig_ok_iff {frame : List Byte} :
    encodeConfig s1 s2 s3 skm psm dt arm kat o = .ok (frame, nbk) ↔
      s1 + s2 + s3 ≤ 16 ∧ frame = drawnConfigFrame s1 s2 s3 skm psm dt arm kat nbk ∧
        nbk = o.getD (16 - (s1 + s2 + s3)) := by
  by_cases hs : s1 + s2 + s3 ≤ 16
  · rw [encodeConfig_of_le hs, Except.ok.injEq, Prod.mk.injEq]
    constructor
    · rintro ⟨rfl, rfl⟩
      exact ⟨hs, rfl, rfl⟩
    · rintro ⟨-, rfl, rfl⟩
      exact ⟨rfl, rfl⟩
  · simp [encodeConfig_of_gt (Nat.lt_of_not_le hs), hs]

theorem encodeConfigWith_length {bit6 : BitVec 1} {frame : List Byte}
    (h : encodeConfigWith bit6 s1 s2 s3 skm psm dt arm kat o = .ok (frame, nbk)) : frame.length = 4 := by
  unfold encodeConfigWith at h
  split at h
  · cases h
  · cases h
    rfl

theorem emittable_drawnConfigFrame : emittable (drawnConfigFrame s1 s2 s3 skm psm dt arm kat nbk) = true := by
  have h0 := configByte0_range_bit6_clear skm psm dt arm
  have h3 : s3 % 16 < 16 := Nat.mod_lt _ (by decide)
  rw [drawnConfigFrame, ← configByte0_eq, Config.configByte0Bit6]
  simpa only [emittable, toNat_low_nibble, h3, decide_true, Bool.and_true, Bool.or_eq_true, decide_eq_true_eq] using h0

/-- A configuration frame is drawn with the fields it carries, `kat` being its field plus one. -/
theorem encode_configFrame_eq_drawn (nbk : BitVec 5) (katm1 : BitVec 3) (s2p s1p s3p : BitVec 4) :
    encode (.configFrame skm psm dt arm nbk katm1 s2p s1p s3p) =
      .frame (drawnConfigFrame s1p.toNat s2p.toNat s3p.toNat skm psm dt arm (katm1.toNat + 1) nbk.toNat) := by
  have hnbk : BitVec.ofNat 5 (nbk.toNat % 32) = nbk := ofNat_toNat_mod nbk
  have hkat : BitVec.ofNat 3 ((katm1.toNat + 1 + 7) % 8) = katm1 := by
    rw [show (katm1.toNat + 1 + 7) % 8 = katm1.toNat % 8 from Nat.add_mod_right _ 8]
    exact ofNat_toNat_mod katm1
  rw [encode, drawnConfigFrame, hnbk, hkat, ofNat_toNat_nibble, ofNat_toNat_nibble, ofNat_toNat_nibble]

end

/-! The threshold frames. -/

theorem emittable_encodeCustomThreshold (pad low med high : Nat) :
    emittable (encodeCustomThreshold pad low med high) = true := by
  obtain ⟨b0, b1, b2, hbytes, h0, -, h2⟩ := customThresholdFrameBytes.1 pad low med high
  have hrange : (0xC0 ≤ b0.toNat ∧ b0.toNat ≤ 0xCF) ∧ b2.toNat < 16 := by omega
  simp [hbytes, emittable, hrange]

theorem emittable_encodeSleepThreshold (low med high : Nat) :
    emittable (encodeSleepThreshold low med high) = true := by
  obtain ⟨b0, b1, b2, hbytes, h0, -, h2⟩ := sleepThresholdFrameBytes.1 low med high
  have hb0 : b0 = 0xD0#8 := BitVec.eq_of_toNat_eq h0
  have hb2 : b2.toNat < 16 := by omega
  simp [hbytes, emittable, hb0, hb2]

theorem encode_customThresholdFrame_eq_drawn (pad med low high : BitVec 4) :
    encode (.customThresholdFrame pad med low high) =
      .frame (drawnCustomThresholdFrame pad.toNat low.toNat med.toNat high.toNat) := by
  rw [encode, drawnCustomThresholdFrame, ofNat_toNat_nibble, ofNat_toNat_nibble, ofNat_toNat_nibble,
    ofNat_toNat_nibble]

theorem encode_sleepThresholdFrame_eq_drawn (med low high : BitVec 4) :
    encode (.sleepThresholdFrame med low high) =
      .frame (drawnSleepThresholdFrame low.toNat med.toNat high.toNat) := by
  rw [encode, drawnSleepThresholdFrame, ofNat_toNat_nibble, ofNat_toNat_nibble, ofNat_toNat_nibble]
  rfl

/-! The status frame. -/

theorem append_inj_iff {m n : Nat} {x x' : BitVec m} {y y' : BitVec n} : x ++ y = x' ++ y' ↔ x = x' ∧ y = y' := by
  constructor
  · intro h
    refine ⟨?_, ?_⟩
    · simpa only [BitVec.extractLsb'_append_eq_left] using congrArg (BitVec.extractLsb' n m) h
    · simpa only [BitVec.extractLsb'_append_eq_right] using congrArg (BitVec.extractLsb' 0 n) h
  · rintro ⟨rfl, rfl⟩
    rfl

theorem low_three_bits_eq (b : Byte) :
    b.extractLsb' 0 3 = BitVec.ofBool (b.getLsbD 2) ++ BitVec.ofBool (b.getLsbD 1) ++ BitVec.ofBool (b.getLsbD 0) := by
  revert b; decide

theorem drawnStatus_eq_iff (b0 b1 b2 b3 b4 b5 c0 c1 c2 c3 c4 c5 : Byte) :
    drawnStatus b0 b1 b2 b3 b4 b5 = drawnStatus c0 c1 c2 c3 c4 c5 ↔
      b0.extractLsb' 0 3 = c0.extractLsb' 0 3 ∧ b1 = c1 ∧ b2 = c2 ∧ b3 = c3 ∧ b4 = c4 ∧ b5 = c5 := by
  have hbuttons : (b2 ++ b1 : BitVec 16) = c2 ++ c1 ↔ b2 = c2 ∧ b1 = c1 := append_inj_iff
  have hbool {x y : Bool} : BitVec.ofBool x = BitVec.ofBool y ↔ x = y := by revert x y; decide
  rw [low_three_bits_eq, low_three_bits_eq, append_inj_iff, append_inj_iff, hbool, hbool, hbool]
  simp only [drawnStatus, StatusFrame.mk.injEq, hbuttons]
  tauto

/-- A StatusFrame that decodes has CALV 1 (R18, R90). -/
theorem decodeStatus_calv {b0 b1 b2 b3 b4 b5 : Byte} {f : StatusFrame} (h : decodeStatus b0 b1 b2 b3 b4 b5 = .ok f) :
    f.calv = true := by
  rw [decodeStatus_eq] at h
  split_ifs at h
  obtain rfl := Except.ok.inj h
  rfl

/-! The statements. -/

/-- Settles O24: the field of the drawn frame is `kat + 7` modulo 8. -/
theorem keyAcknowledgeField : Obligations.KeyAcknowledgeField := by
  intro s1 s2 s3 skm psm dt arm kat o frame nbk h
  obtain ⟨hs, rfl, hnbk⟩ := encodeConfig_ok_iff.mp h
  have hfield := toNat_acknowledge_mod nbk (kat + 7)
  refine ⟨_, rfl, fun _ => ?_, fun _ => ?_, fun _ => ?_, encodeConfig_ok_iff.mpr ⟨hs, drawnConfigFrame_add_eight.symm, hnbk⟩⟩
  all_goals
    rw [hfield]
    omega

/-- Settles O28: byte 0 is `configByte0`, or the fixed high nibble of a threshold frame. -/
theorem firstByteTellsTheFrameKind : Obligations.FirstByteTellsTheFrameKind := by
  refine ⟨fun bit6 s1 s2 s3 skm psm dt arm kat o frame nbk h =>
      ⟨encodeConfigWith_length h, _, encodeConfigWith_first_byte h, ?_, ?_⟩,
    fun pad low med high => ⟨rfl, ?_⟩, fun low med high => ⟨rfl, rfl⟩⟩
  · rintro rfl
    exact configByte0_range_bit6_clear skm psm dt arm
  · rintro rfl
    exact configByte0_range_bit6_set skm psm dt arm
  · obtain ⟨b0, b1, b2, hbytes, h0, -, -⟩ := customThresholdFrameBytes.1 pad low med high
    exact ⟨b0, by rw [hbytes]; rfl, by omega, by omega⟩

/-- Settles O32: what decodes is the drawn StatusFrame, whose fields are just the bits named. -/
theorem statusBitsThatMatter : Obligations.StatusBitsThatMatter := by
  intro b0 b1 b2 b3 b4 b5 c0 c1 c2 c3 c4 c5 hb hc
  rw [decodeStatus_of_calibrated hb, decodeStatus_of_calibrated hc, Except.ok.injEq]
  exact drawnStatus_eq_iff b0 b1 b2 b3 b4 b5 c0 c1 c2 c3 c4 c5

/-- Settles O17: the fields a frame carries are drawn as they are, and the check is on the counts it carries. -/
theorem builderRowsProduceTheirFrame : Obligations.BuilderRowsProduceTheirFrame := by
  refine ⟨fun s skm psm dt arm nbk katm1 s2p s1p s3p bytes h => ?_, fun s pad med low high bytes h => ?_,
    fun s med low high bytes h => ?_⟩
  · rw [encode_configFrame_eq_drawn] at h
    obtain rfl := Presented.frame.inj h
    change execConfigFrame skm psm dt arm nbk katm1 s2p s1p s3p s = _
    rw [execConfigFrame]
    by_cases hs : s1p.toNat + s2p.toNat + s3p.toNat > 16
    · rw [encodeConfig_of_gt hs, if_pos hs]
      rfl
    · rw [encodeConfig_of_le (Nat.le_of_not_lt hs), if_neg hs]
      rfl
  · rw [encode_customThresholdFrame_eq_drawn, ← encodeCustomThreshold_eq] at h
    obtain rfl := Presented.frame.inj h
    rfl
  · rw [encode_sleepThresholdFrame_eq_drawn, ← encodeSleepThreshold_eq] at h
    obtain rfl := Presented.frame.inj h
    rfl

/-- Settles O18: bit 7 of the byte 0 a row draws decides, and the row's flags are the bits the decoder reads. -/
theorem statusRowsRunTheDecoder : Obligations.StatusRowsRunTheDecoder := by
  refine ⟨fun s u st2 st1 st0 l h p q r => ?_, fun s u b1 b2 b3 b4 b5 => ?_⟩
  · obtain ⟨h7, -, h2, h1, h0⟩ := statusFrame_byte0_fields u st2 st1 st0
    change execStatusFrame u st2 st1 st0 l h p q r s = _
    rw [execStatusFrame, decodeStatus_of_calibrated h7, drawnStatus, h2, h1, h0]
    rfl
  · change execStatusFrameUncalibrated u b1 b2 b3 b4 b5 s = _
    rw [execStatusFrameUncalibrated, decodeStatus_of_uncalibrated (uncalibrated_byte0_bit_seven u)]
    rfl

end Sys2Proof.Machine
end

section
/-! The bus traffic of one instruction and of one step (20_memory.md R31, R35, R36), and the invariants every step keeps. -/

namespace Sys2Proof.Machine

open Sys2Proof

@[simp] theorem finishConfigure_bus (c : DeviceConfig) (w : WriteOutcome) (s : State) :
    (finishConfigure c w s).bus = s.bus := by
  cases w <;> rfl

@[simp] theorem finishConfigure_results (c : DeviceConfig) (w : WriteOutcome) (s : State) :
    (finishConfigure c w s).results = writeResult w :: s.results := by
  cases w <;> rfl

@[simp] theorem finishRead_bus (o : ReadOutcome) (s : State) : (finishRead o s).bus = s.bus := by
  obtain ⟨e, he⟩ | ⟨_, _, _, _, _, _, f, -, -, hf⟩ := finishRead_cases o s
  · rw [he, answered_bus]
  · rw [hf, answered_bus, storeSnapshot_bus]

/-- The transactions an instruction can issue at a device address (R36). -/
inductive Issues (a : DeviceAddress) : Transaction → Prop
  | write {p : List Byte} (hp : emittable p = true) : Issues a (.write (0#1 ++ a) p)
  | read : Issues a (.read (0#1 ++ a) 6)

theorem next_of_not_usesBus {i : Instr} {s t : State} (hi : usesBus i = false) (h : exec i s = .next t) :
    ∃ r, t = answered r s := by
  obtain ⟨r, hr⟩ := exec_answers hi s
  exact ⟨r, by simpa [hr, eq_comm] using h⟩

/-- An instruction issues no transaction or one: the write of a frame the block emits, or a read of 6 bytes. -/
theorem exec_bus {i : Instr} {s t : State} (h : exec i s = .next t) :
    t.bus = s.bus ∨ ∃ x, Issues s.deviceAddress x ∧ t.bus = x :: s.bus := by
  cases hi : usesBus i with
  | false =>
    obtain ⟨r, rfl⟩ := next_of_not_usesBus hi h
    exact .inl rfl
  | true =>
    cases i with
    | configure s1 s2 s3 skm psm dt arm kat o =>
      obtain ⟨-, rfl⟩ | ⟨-, -, rfl⟩ | ⟨-, -, w, -, rfl⟩ := exec_configure_next_iff.mp h
      · exact .inl rfl
      · exact .inl rfl
      · exact .inr ⟨_, .write emittable_drawnConfigFrame, by rw [finishConfigure_bus, written_bus]⟩
    | setCustomThreshold pad low med high =>
      obtain ⟨-, rfl⟩ | ⟨-, w, -, rfl⟩ := exec_setCustomThreshold_next_iff.mp h
      · exact .inl rfl
      · exact .inr ⟨_, .write (emittable_encodeCustomThreshold pad low med high), written_bus _ s⟩
    | setSleepThreshold low med high =>
      obtain ⟨-, rfl⟩ | ⟨-, w, -, rfl⟩ := exec_setSleepThreshold_next_iff.mp h
      · exact .inl rfl
      · exact .inr ⟨_, .write (emittable_encodeSleepThreshold low med high), written_bus _ s⟩
    | read =>
      obtain ⟨-, rfl⟩ | ⟨-, o, -, rfl⟩ := exec_read_next_iff.mp h
      · exact .inl rfl
      · exact .inr ⟨_, .read, by rw [finishRead_bus, readDone_bus]⟩
    | _ => cases hi

theorem toNat_addressByte (a : DeviceAddress) : (0#1 ++ a : Byte).toNat = a.toNat := by
  rw [← addressByte_eq, addressByte, BitVec.toNat_setWidth_of_le (by decide)]

theorem Issues.legal {a : DeviceAddress} {x : Transaction} (h : Issues a x) : legalTransaction x = true := by
  have ha : (0#1 ++ a : Byte).getLsbD 7 = false := uncalibrated_byte0_bit_seven a
  cases h with
  | write hp => simp only [legalTransaction, ha, hp, Bool.not_false, Bool.and_self]
  | read => simp only [legalTransaction, ha, decide_true, Bool.not_false, Bool.and_self]

theorem exec_keeps_busLegal {i : Instr} {s t : State} (hs : busLegal s) (h : exec i s = .next t) : busLegal t := by
  obtain hbus | ⟨x, hx, hbus⟩ := exec_bus h
  · rwa [busLegal, hbus]
  · rw [busLegal, hbus]
    exact List.forall_mem_cons.mpr ⟨hx.legal, hs⟩

/-- Settles O46: only a presented instruction issues anything, and what it issues is legal. -/
theorem stepKeepsTheBusLegal : Obligations.StepKeepsTheBusLegal := by
  intro s t hs h
  obtain ⟨-, rfl⟩ | ⟨a, rest, -, rfl⟩ | ⟨p, rest, i, -, -, he⟩ := step_next h
  · exact hs
  · exact hs
  · exact exec_keeps_busLegal (s := { s with script := rest }) hs he

/-! The facade's invariant. -/

theorem facadeInv_congr {s t : State} (hs : facadeInv s) (hm : t.mode = s.mode) (hc : t.cfg = s.cfg)
    (hf : t.snap = s.snap) : facadeInv t := by
  rwa [facadeInv, hm, hc, hf]

theorem facadeInv_reinstantiate (a : DeviceAddress) (s : State) : facadeInv (reinstantiate a s) :=
  ⟨by simp, nofun, nofun⟩

theorem exec_keeps_facadeInv {i : Instr} {s t : State} (hs : facadeInv s) (h : exec i s = .next t) : facadeInv t := by
  cases exec_ends h with
  | answers | refuses | sends | configureFails | readFails => exact facadeInv_congr hs (by simp) (by simp) (by simp)
  | configures s1 s2 s3 skm psm dt arm kat o p hm hsum hw =>
    obtain ⟨-, -, hsnap⟩ := hs
    refine ⟨by simp, ?_, fun f hf => ⟨(hsnap f (by simpa using hf)).1, rfl⟩⟩
    intro c hc
    obtain rfl := Option.some.inj hc
    exact hsum
  | reads hm ho hd =>
    obtain ⟨hheld, hpads, -⟩ := hs
    refine ⟨by simpa using hheld, by simpa using hpads, ?_⟩
    intro f hf
    obtain rfl := Option.some.inj hf
    exact ⟨decodeStatus_calv hd, by simpa using hm⟩

/-- Settles O45: a reset holds nothing, and a presented instruction keeps the invariant in each of its endings. -/
theorem stepKeepsTheFacadeInvariant : Obligations.StepKeepsTheFacadeInvariant := by
  intro s t hs h
  obtain ⟨-, rfl⟩ | ⟨a, rest, -, rfl⟩ | ⟨p, rest, i, -, -, he⟩ := step_next h
  · exact hs
  · exact facadeInv_reinstantiate a _
  · exact exec_keeps_facadeInv (s := { s with script := rest }) hs he

/-- Settles O47: the reset state is written out, with nothing held and nothing on the bus. -/
theorem resetMeetsTheInvariants : Obligations.ResetMeetsTheInvariants :=
  ⟨rfl, rfl, rfl, rfl, facadeInv_reinstantiate Config.defaultDeviceAddress State.reset, nofun⟩

/-- Settles O41: no ending writes DEV_ADDR, and the address byte of what is issued is its value. -/
theorem deviceAddressIsFixed : Obligations.DeviceAddressIsFixed := by
  refine ⟨fun i s t h => ⟨?_, ?_⟩, rfl, fun a s => rfl⟩
  · cases exec_ends h with
    | answers | refuses | sends | configureFails | configures | readFails | reads => simp
  · obtain hbus | ⟨x, hx, hbus⟩ := exec_bus h
    · exact .inl hbus
    · refine .inr ⟨x, hbus, 0#1 ++ s.deviceAddress, toNat_addressByte _, ?_⟩
      cases hx with
      | write => exact .inl ⟨_, rfl⟩
      | read => exact .inr ⟨_, rfl⟩

end Sys2Proof.Machine
end

section
/-! What each operation comes to, with its whole next state (sections 1 and 2 of 40_config_frame.md to 43_accessors.md). -/

namespace Sys2Proof.Machine

open Sys2Proof

/-! Admission and the bus call. -/

/-- The five operations refused while Unconfigured answer `NotConfigured` (R24, D4). -/
theorem exec_of_unconfigured {i : Instr} {s : State} (hi : needsConfigured i = true) (hm : s.mode = .unconfigured) :
    exec i s = .next (answered (.error .notConfigured) s) := by
  cases i with
  | setCustomThreshold | setSleepThreshold | read | button | slider => exact whenConfigured_unconfigured hm _
  | _ => cases hi

theorem afterCall_memWrite_of_never {s : State} (hw : nextWriteOutcome s = none) (p : List Byte)
    (k : WriteOutcome → State → State) :
    afterCall (memWrite s.deviceAddress p s) k = .fault .busCallNeverReturns := by
  rw [memWrite_eq, hw]
  rfl

theorem afterCall_memRead_of_never {s : State} (ho : nextReadOutcome s = none) (k : ReadOutcome → State → State) :
    afterCall (memRead s.deviceAddress Config.statusLength s) k = .fault .busCallNeverReturns := by
  rw [show Config.statusLength = 6 from rfl, memRead_eq, ho]
  rfl

/-! CONFIGURE. -/

section
variable {s : State} {s1 s2 s3 kat : Nat} {skm psm dt : Bool} {arm : BitVec 2} {o : Option Nat}

theorem exec_configure_of_configured (hm : s.mode = .configured) :
    exec (.configure s1 s2 s3 skm psm dt arm kat o) s = .next (answered (.error .alreadyConfigured) s) :=
  whenUnconfigured_configured hm _

theorem exec_configure_of_admitted (hm : s.mode = .unconfigured) (hs : s1 + s2 + s3 ≤ 16) :
    exec (.configure s1 s2 s3 skm psm dt arm kat o) s =
      afterCall (memWrite s.deviceAddress (drawnConfigFrame s1 s2 s3 skm psm dt arm kat (o.getD (16 - (s1 + s2 + s3)))) s)
        (finishConfigure (presentedConfig s1 s2 s3 skm psm dt arm kat o)) := by
  change execConfigure s1 s2 s3 skm psm dt arm kat o s = _
  rw [execConfigure, whenUnconfigured_unconfigured hm, encodeConfig_of_le hs]
  rfl

/-- CONFIGURE looks at the override through `EncodeConfig` only. -/
theorem exec_configure_congr_override {o' : Option Nat}
    (h : encodeConfig s1 s2 s3 skm psm dt arm kat o = encodeConfig s1 s2 s3 skm psm dt arm kat o') :
    exec (.configure s1 s2 s3 skm psm dt arm kat o) s = exec (.configure s1 s2 s3 skm psm dt arm kat o') s := by
  change execConfigure s1 s2 s3 skm psm dt arm kat o s = execConfigure s1 s2 s3 skm psm dt arm kat o' s
  rw [execConfigure, execConfigure, h]

end

/-- Settles O9: `enterConfigured` with what the operands present, on the state after the write. -/
theorem configureCompletes : Obligations.ConfigureCompletes :=
  fun _ _ _ _ _ _ _ _ _ _ hm hs hw => exec_configure_of_write_success hm hs hw

/-- Settles O10: the three failing cases of `exec_configure_next_iff`. -/
theorem configureFails : Obligations.ConfigureFails := fun _ _ _ _ _ _ _ _ _ _ =>
  ⟨fun hm => exec_configure_of_configured hm,
    fun hm hs => exec_configure_next_iff.mpr (.inr (.inl ⟨hm, hs, rfl⟩)),
    fun cause hm hs hw => exec_configure_next_iff.mpr (.inr (.inr ⟨hm, hs, .transportError cause, hw, rfl⟩))⟩

/-- Settles O26: the derived key count is the override that gives the same answer of `EncodeConfig`; above 16 every one does. -/
theorem absentOverrideIsTheDerivedKeyCount : Obligations.AbsentOverrideIsTheDerivedKeyCount := by
  refine fun s s1 s2 s3 skm psm dt arm kat n =>
    ⟨fun hn => exec_configure_congr_override ?_, fun hs => exec_configure_congr_override ?_⟩
  · have hderived : 16 - (s1 + s2 + s3) = n := by omega
    have hs : s1 + s2 + s3 ≤ 16 := by omega
    rw [encodeConfig_of_le hs, encodeConfig_of_le hs, Option.getD_none, Option.getD_some, hderived]
  · rw [encodeConfig_of_gt hs, encodeConfig_of_gt hs]

/-! The threshold operations. -/

/-- Settles O11: the frame sent is the drawn one, and what the write came to is answered. -/
theorem setCustomThresholdCompletes : Obligations.SetCustomThresholdCompletes := by
  intro s pad low med high
  rw [← encodeCustomThreshold_eq]
  exact ⟨fun hm hw => exec_setCustomThreshold_next_iff.mpr (.inr ⟨hm, _, hw, rfl⟩),
    fun _ hm hw => exec_setCustomThreshold_next_iff.mpr (.inr ⟨hm, _, hw, rfl⟩), exec_of_unconfigured rfl⟩

/-- Settles O12: the frame sent is the drawn one, and what the write came to is answered. -/
theorem setSleepThresholdCompletes : Obligations.SetSleepThresholdCompletes := by
  intro s low med high
  rw [← encodeSleepThreshold_eq]
  exact ⟨fun hm hw => exec_setSleepThreshold_next_iff.mpr (.inr ⟨hm, _, hw, rfl⟩),
    fun _ hm hw => exec_setSleepThreshold_next_iff.mpr (.inr ⟨hm, _, hw, rfl⟩), exec_of_unconfigured rfl⟩

/-! READ. -/

theorem decodeReceived_six (b0 b1 b2 b3 b4 b5 : Byte) :
    decodeReceived [b0, b1, b2, b3, b4, b5] = decodeStatus b0 b1 b2 b3 b4 b5 := rfl

theorem finishRead_of_ok {received : List Byte} {f : StatusFrame} (h : decodeReceived received = .ok f) (s : State) :
    finishRead (.bytes received) s = answered (.ok .unit) (storeSnapshot f s) := by
  simp only [finishRead, h, returnValue_eq]

theorem finishRead_of_error {received : List Byte} {e : OpError} (h : decodeReceived received = .error e) (s : State) :
    finishRead (.bytes received) s = answered (.error e) s := by
  simp only [finishRead, h, raiseError_eq]

theorem exec_read_of_outcome {s : State} {o : ReadOutcome} (hm : s.mode = .configured) (ho : nextReadOutcome s = some o) :
    exec .read s = .next (finishRead o (readDone s)) :=
  exec_read_next_iff.mpr (.inr ⟨hm, o, ho, rfl⟩)

/-- Settles O13: six calibrated bytes decode to the drawn StatusFrame, which is stored. -/
theorem readCompletes : Obligations.ReadCompletes := by
  intro s b0 b1 b2 b3 b4 b5 hm ho h7
  have hd := (decodeReceived_six b0 b1 b2 b3 b4 b5).trans (decodeStatus_of_calibrated h7 b1 b2 b3 b4 b5)
  rw [exec_read_of_outcome hm ho, finishRead_of_ok hd]
  rfl

/-- Settles O14: every other outcome of the read ends in an error on the state after the read. -/
theorem readFails : Obligations.ReadFails := by
  refine fun s => ⟨exec_of_unconfigured rfl, fun cause hm ho => ?_, fun received hm ho hlength => ?_,
    fun b0 b1 b2 b3 b4 b5 hm ho h7 => ?_⟩
  · rw [exec_read_of_outcome hm ho, finishRead_transportError]
  · rw [exec_read_of_outcome hm ho, finishRead_of_error (decodeReceived_length hlength)]
  · have hd := (decodeReceived_six b0 b1 b2 b3 b4 b5).trans (decodeStatus_of_uncalibrated h7 b1 b2 b3 b4 b5)
    rw [exec_read_of_outcome hm ho, finishRead_of_error hd]

/-! The accessors. -/

section
variable {s : State} {f : StatusFrame}

theorem exec_button_of_held (hm : s.mode = .configured) (hf : s.snap = some f) (n : Nat) :
    exec (.button n) s = .next (answered (.ok (.bit (f.buttons.getLsbD n))) s) := by
  rw [← buttonBit_eq]
  exact (whenConfigured_configured hm _).trans (withSnapshot_some hf _)

theorem exec_button_of_none (hm : s.mode = .configured) (hf : s.snap = none) (n : Nat) :
    exec (.button n) s = .next (answered (.error .noSnapshot) s) :=
  (whenConfigured_configured hm _).trans (withSnapshot_none hf _)

theorem exec_slider_of_held {n : Nat} {k : Fin 3} (hm : s.mode = .configured) (hf : s.snap = some f)
    (hn : sliderIndex n = some k) :
    exec (.slider n) s = .next (answered (.ok (.touch (sliderTouch f k) (sliderPosition f k))) s) := by
  change execSlider n s = _
  rw [execSlider, whenConfigured_configured hm, hn]
  exact withSnapshot_some hf _

theorem exec_slider_of_none {n : Nat} (hm : s.mode = .configured) (hf : s.snap = none) (hn : ¬ (n < 1 ∨ n > 3)) :
    exec (.slider n) s = .next (answered (.error .noSnapshot) s) := by
  obtain ⟨k, hk⟩ := Option.ne_none_iff_exists'.mp (mt (sliderIndex_none n).mp hn)
  change execSlider n s = _
  rw [execSlider, whenConfigured_configured hm, hk]
  exact withSnapshot_none hf _

theorem exec_slider_of_outside {n : Nat} (hm : s.mode = .configured) (hn : n < 1 ∨ n > 3) :
    exec (.slider n) s = .next (answered (.error .operandFault) s) := by
  change execSlider n s = _
  rw [execSlider, whenConfigured_configured hm, (sliderIndex_none n).mpr hn]
  rfl

end

/-- Settles O15: the bit of the held mask, which has none from 16 on. -/
theorem buttonCompletes : Obligations.ButtonCompletes := by
  refine fun s n => ⟨fun f hm hf _ => exec_button_of_held hm hf n, fun f hm hf hn => ?_,
    fun hm hf => exec_button_of_none hm hf n, exec_of_unconfigured rfl⟩
  rw [exec_button_of_held hm hf n, BitVec.getLsbD_of_ge f.buttons n hn]

/-- Settles O16: the three numbers are the indices 0 to 2, and the range is tested before the snapshot. -/
theorem sliderCompletes : Obligations.SliderCompletes := fun _ =>
  ⟨fun _ hm hf => ⟨exec_slider_of_held (k := 0) hm hf rfl, exec_slider_of_held (k := 1) hm hf rfl,
      exec_slider_of_held (k := 2) hm hf rfl⟩,
    fun _ hm hf hn => exec_slider_of_none hm hf (by omega),
    fun _ hm hn => exec_slider_of_outside hm hn,
    fun _ => exec_of_unconfigured rfl⟩

/-! A bus call that never returns. -/

/-- Settles O19: each of the operations, once admitted, is what follows its bus call. -/
theorem blockedBusBlocksTheOperation : Obligations.BlockedBusBlocksTheOperation := by
  refine ⟨fun s s1 s2 s3 skm psm dt arm kat o hw hm hs => ?_,
    fun s pad low med high hw hm => ⟨?_, ?_⟩, fun s ho hm => ?_⟩
  · rw [exec_configure_of_admitted hm hs, afterCall_memWrite_of_never hw]
  · exact (whenConfigured_configured hm _).trans (afterCall_memWrite_of_never hw _ _)
  · exact (whenConfigured_configured hm _).trans (afterCall_memWrite_of_never hw _ _)
  · exact (whenConfigured_configured hm _).trans (afterCall_memRead_of_never ho _)

/-- The outcome is a next state, or the fault of a bus call of this state that never returns (R140). -/
def CompletesUnlessBlocked (s : State) (x : StepOutcome) : Prop :=
  (∃ t, x = .next t) ∨ (x = .fault .busCallNeverReturns ∧ busReturns s = false)

section
variable {s : State}

theorem completes_next (t : State) : CompletesUnlessBlocked s (.next t) := .inl ⟨t, rfl⟩

theorem completes_whenConfigured {k : StepOutcome} (hk : CompletesUnlessBlocked s k) :
    CompletesUnlessBlocked s (whenConfigured s k) := by
  cases hm : s.mode with
  | unconfigured => exact whenConfigured_unconfigured hm k ▸ completes_next _
  | configured => rwa [whenConfigured_configured hm]

theorem completes_afterCall_memWrite (p : List Byte) (k : WriteOutcome → State → State) :
    CompletesUnlessBlocked s (afterCall (memWrite s.deviceAddress p s) k) := by
  cases hw : nextWriteOutcome s with
  | none => exact .inr ⟨afterCall_memWrite_of_never hw p k, by simp [busReturns, hw]⟩
  | some w => exact .inl ⟨_, afterCall_memWrite_next_iff.mpr ⟨w, hw, rfl⟩⟩

theorem completes_afterCall_memRead (k : ReadOutcome → State → State) :
    CompletesUnlessBlocked s (afterCall (memRead s.deviceAddress Config.statusLength s) k) := by
  cases ho : nextReadOutcome s with
  | none => exact .inr ⟨afterCall_memRead_of_never ho k, by simp [busReturns, ho]⟩
  | some o => exact .inl ⟨_, afterCall_memRead_next_iff.mpr ⟨o, ho, rfl⟩⟩

theorem exec_completesUnlessBlocked (i : Instr) (s : State) : CompletesUnlessBlocked s (exec i s) := by
  cases hi : usesBus i with
  | false =>
    obtain ⟨r, hr⟩ := exec_answers hi s
    exact hr ▸ completes_next _
  | true =>
    cases i with
    | configure s1 s2 s3 skm psm dt arm kat o =>
      cases hm : s.mode with
      | configured => exact exec_configure_of_configured hm ▸ completes_next _
      | unconfigured =>
        by_cases hs : s1 + s2 + s3 ≤ 16
        · exact exec_configure_of_admitted hm hs ▸ completes_afterCall_memWrite _ _
        · exact .inl ⟨_, exec_configure_next_iff.mpr (.inr (.inl ⟨hm, Nat.lt_of_not_le hs, rfl⟩))⟩
    | setCustomThreshold => exact completes_whenConfigured (completes_afterCall_memWrite _ _)
    | setSleepThreshold => exact completes_whenConfigured (completes_afterCall_memWrite _ _)
    | read => exact completes_whenConfigured (completes_afterCall_memRead _)
    | _ => cases hi

end

/-- Settles O20: the one way not to answer a next state is the fault of a bus call that never returns. -/
theorem everyInstructionCompletesUnlessTheBusBlocks : Obligations.EveryInstructionCompletesUnlessTheBusBlocks := by
  intro i s
  obtain ⟨t, ht⟩ | ⟨hfault, hblocked⟩ := exec_completesUnlessBlocked i s
  · rw [ht]
    exact ⟨fun _ => ⟨t, rfl⟩, nofun, nofun⟩
  · rw [hfault]
    exact ⟨fun hreturns => absurd hreturns (by simp [hblocked]), fun _ _ => hblocked, nofun⟩

end Sys2Proof.Machine
end

section
/-! The error an operation reports (60_exceptions.md R114), and what follows from it for MODE, the bus and the accessors (R24, R36,
R102). -/

namespace Sys2Proof.Machine

open Sys2Proof

/-! The errors of the two bus primitives. -/

theorem writeResult_eq_error_iff {s : State} {w : WriteOutcome} (hw : nextWriteOutcome s = some w) (e : OpError) :
    writeResult w = .error e ↔ writeError s = some e := by
  cases w <;> simp [writeError, hw]

theorem decodeReceived_cases (received : List Byte) :
    (received.length ≠ 6 ∧ decodeReceived received = .error .frameLengthFault) ∨
    (∃ b0 b1 b2 b3 b4 b5, received = [b0, b1, b2, b3, b4, b5] ∧
      decodeReceived received = decodeStatus b0 b1 b2 b3 b4 b5) := by
  by_cases hlength : received.length = 6
  · match received, hlength with
    | [b0, b1, b2, b3, b4, b5], _ => exact .inr ⟨b0, b1, b2, b3, b4, b5, rfl, rfl⟩
  · exact .inl ⟨hlength, decodeReceived_length hlength⟩

theorem readError_of_six {s : State} {b0 b1 b2 b3 b4 b5 : Byte}
    (ho : nextReadOutcome s = some (.bytes [b0, b1, b2, b3, b4, b5])) :
    readError s = if b0.getLsbD 7 then none else some .calibrationError := by
  rw [readError, ho]
  rfl

theorem finishRead_error_iff {s : State} {o : ReadOutcome} (ho : nextReadOutcome s = some o) (s' : State) (e : OpError) :
    (finishRead o s').results = .error e :: s'.results ↔ readError s = some e := by
  cases o with
  | transportError cause => simp [readError, ho]
  | bytes received =>
    obtain ⟨hlength, hd⟩ | ⟨b0, b1, b2, b3, b4, b5, rfl, hd⟩ := decodeReceived_cases received
    · simp [finishRead_of_error hd, readError, ho, hlength]
    · rw [readError_of_six ho]
      cases h7 : b0.getLsbD 7 with
      | false => simp [finishRead_of_error (hd.trans (decodeStatus_of_uncalibrated h7 ..))]
      | true => simp [finishRead_of_ok (hd.trans (decodeStatus_of_calibrated h7 ..))]

/-! The first error that applies. -/

theorem reportedError_of_unconfigured {i : Instr} {s : State} (hi : needsConfigured i = true) (hm : s.mode = .unconfigured) :
    reportedError i s = some .notConfigured := by
  cases i with
  | setCustomThreshold | setSleepThreshold | read | button | slider => exact if_pos hm
  | _ => cases hi

/-- The newest result of `t` is an error just when it is the first of R114's table that applies in `s`. -/
def ReportsFirst (i : Instr) (s t : State) : Prop :=
  ∀ e, t.results = .error e :: s.results ↔ reportedError i s = some e

theorem reportsFirst_of_answered {i : Instr} {s t : State} {r : Result} (h : exec i s = .next t)
    (hr : exec i s = .next (answered r s)) (hfirst : ∀ e, r = .error e ↔ reportedError i s = some e) :
    ReportsFirst i s t := by
  obtain rfl : answered r s = t := by simpa [hr] using h
  simpa [ReportsFirst] using hfirst

theorem configure_reportsFirst {s t : State} {s1 s2 s3 : Nat} {skm psm dt : Bool} {arm : BitVec 2} {kat : Nat}
    {o : Option Nat} (h : exec (.configure s1 s2 s3 skm psm dt arm kat o) s = .next t) :
    ReportsFirst (.configure s1 s2 s3 skm psm dt arm kat o) s t := by
  intro e
  obtain ⟨hm, rfl⟩ | ⟨hm, hs, rfl⟩ | ⟨hm, hs, w, hw, rfl⟩ := exec_configure_next_iff.mp h
  · simp [reportedError, hm]
  · simp [reportedError, hm, hs]
  · simp [reportedError, hm, Nat.not_lt.mpr hs, writeResult_eq_error_iff hw]

theorem whenConfigured_sendFrame_error_iff {s t : State} {p : List Byte} (h : whenConfigured s (sendFrame p s) = .next t)
    (e : OpError) : t.results = .error e :: s.results ↔
      (if s.mode = .unconfigured then some .notConfigured else writeError s) = some e := by
  obtain ⟨hm, rfl⟩ | ⟨hm, w, hw, rfl⟩ := whenConfigured_sendFrame_next_iff.mp h
  · simp [hm]
  · simp [hm, writeResult_eq_error_iff hw]

theorem read_reportsFirst {s t : State} (h : exec .read s = .next t) : ReportsFirst .read s t := by
  intro e
  obtain ⟨hm, rfl⟩ | ⟨hm, o, ho, rfl⟩ := exec_read_next_iff.mp h
  · simp [reportedError, hm]
  · simpa [reportedError, hm] using finishRead_error_iff ho (readDone s) e

theorem button_reportsFirst {s t : State} {n : Nat} (h : exec (.button n) s = .next t) : ReportsFirst (.button n) s t := by
  cases hm : s.mode with
  | unconfigured => exact reportsFirst_of_answered h (exec_of_unconfigured rfl hm) (by simp [reportedError, hm])
  | configured =>
    cases hf : s.snap with
    | none => exact reportsFirst_of_answered h (exec_button_of_none hm hf n) (by simp [reportedError, hm, hf])
    | some f => exact reportsFirst_of_answered h (exec_button_of_held hm hf n) (by simp [reportedError, hm, hf])

theorem slider_reportsFirst {s t : State} {n : Nat} (h : exec (.slider n) s = .next t) : ReportsFirst (.slider n) s t := by
  cases hm : s.mode with
  | unconfigured => exact reportsFirst_of_answered h (exec_of_unconfigured rfl hm) (by simp [reportedError, hm])
  | configured =>
    by_cases hn : n < 1 ∨ n > 3
    · refine reportsFirst_of_answered h (exec_slider_of_outside hm hn) fun e => ?_
      rw [reportedError, if_neg (by simp [hm]), if_pos hn]
      simp
    · obtain ⟨k, hk⟩ := Option.ne_none_iff_exists'.mp (mt (sliderIndex_none n).mp hn)
      cases hf : s.snap with
      | none =>
        refine reportsFirst_of_answered h (exec_slider_of_none hm hf hn) fun e => ?_
        rw [reportedError, if_neg (by simp [hm]), if_neg hn, if_pos hf]
        simp
      | some f =>
        refine reportsFirst_of_answered h (exec_slider_of_held hm hf hk) fun e => ?_
        rw [reportedError, if_neg (by simp [hm]), if_neg hn, if_neg (by simp [hf])]
        simp

/-- Settles O38: each operation, by the first of its tests that applies. -/
theorem firstErrorInOrderIsReported : Obligations.FirstErrorInOrderIsReported := by
  intro i s t e hi h
  cases i with
  | configure => exact configure_reportsFirst h e
  | setCustomThreshold => exact whenConfigured_sendFrame_error_iff h e
  | setSleepThreshold => exact whenConfigured_sendFrame_error_iff h e
  | read => exact read_reportsFirst h e
  | button => exact button_reportsFirst h e
  | slider => exact slider_reportsFirst h e
  | illegalOp => exact reportsFirst_of_answered h rfl (by simp [reportedError]) e
  | _ => cases hi

/-! MODE. -/

/-- Settles O34: CONFIGURE by its cases, the refusals by admission, and every other instruction keeps MODE. -/
theorem modeTransitionTable : Obligations.ModeTransitionTable := by
  refine ⟨fun i s t h => ⟨fun hi hm hr => ?_, fun hi hm e hr => ?_, fun hi hm => ?_, fun hi hm => ?_, fun hi => ?_⟩,
    fun a s => rfl⟩
  · cases i with
    | configure s1 s2 s3 skm psm dt arm kat o =>
      obtain ⟨-, rfl⟩ | ⟨-, -, rfl⟩ | ⟨-, -, w, -, rfl⟩ := exec_configure_next_iff.mp h
      · simp at hr
      · simp at hr
      · cases w with
        | success => rfl
        | transportError cause => simp at hr
    | _ => cases hi
  · obtain ⟨hkeep, -⟩ | ⟨-, -, -, hok, -⟩ := exec_configures_or_keeps h
    · exact hkeep.trans hm
    · simp [hok] at hr
  · simpa [exec_of_unconfigured hi hm, eq_comm] using h
  · cases i with
    | configure => simpa [exec_configure_of_configured hm, eq_comm] using h
    | _ => cases hi
  · obtain ⟨hkeep, -⟩ | ⟨-, -, -, -, _, _, _, _, _, _, _, _, _, rfl⟩ := exec_configures_or_keeps h
    · exact hkeep
    · cases hi

/-! The bus. -/

theorem writeResult_eq_error {w : WriteOutcome} {e : OpError} (h : writeResult w = .error e) :
    ∃ cause, e = .transportError cause := by
  cases w with
  | success => cases h
  | transportError cause => exact ⟨cause, (Result.error.inj h).symm⟩

theorem writeResult_ne_error {e : OpError} (he : ∀ cause, e ≠ .transportError cause) (w : WriteOutcome) :
    writeResult w ≠ .error e :=
  fun h => (writeResult_eq_error h).elim he

theorem readError_ne_notConfigured (s : State) : readError s ≠ some .notConfigured := by
  unfold readError
  split
  · simp
  · split_ifs <;> simp
  · simp

theorem drawnConfigFrame_length {s1 s2 s3 kat nbk : Nat} {skm psm dt : Bool} {arm : BitVec 2} :
    (drawnConfigFrame s1 s2 s3 skm psm dt arm kat nbk).length = 4 := rfl

theorem whenConfigured_sendFrame_traffic {s t : State} {p : List Byte} (h : whenConfigured s (sendFrame p s) = .next t) :
    (t.results = .error .notConfigured :: s.results ∧ t.bus = s.bus) ∨
    (t.results ≠ .error .notConfigured :: s.results ∧ t.bus = .write (0#1 ++ s.deviceAddress) p :: s.bus) := by
  obtain ⟨-, rfl⟩ | ⟨-, w, -, rfl⟩ := whenConfigured_sendFrame_next_iff.mp h
  · exact .inl ⟨rfl, rfl⟩
  · exact .inr ⟨by simp [writeResult_ne_error], written_bus p s⟩

theorem usesBus_eq_false {i : Instr} (hi : isAccessor i = true ∨ isHostOperation i = false ∨ ∃ x, i = .illegalOp x) :
    usesBus i = false := by
  cases i with
  | configure | setCustomThreshold | setSleepThreshold | read => simp [isAccessor, isHostOperation] at hi
  | _ => rfl

/-- Settles O40: the one transaction is that of `written` or `readDone`, and the errors that come without one are those no bus call
gives. -/
theorem busTransactionsOfEachOperation : Obligations.BusTransactionsOfEachOperation := by
  refine fun i s t h => ⟨fun hi => ?_, ?_, ?_, fun hi => ?_⟩
  · cases i with
    | configure s1 s2 s3 skm psm dt arm kat o =>
      obtain ⟨-, rfl⟩ | ⟨-, -, rfl⟩ | ⟨-, -, w, -, rfl⟩ := exec_configure_next_iff.mp h
      · exact .inl ⟨.inl rfl, rfl⟩
      · exact .inl ⟨.inr rfl, rfl⟩
      · exact .inr ⟨by simp [writeResult_ne_error], by simp [writeResult_ne_error], _, drawnConfigFrame_length,
          (finishConfigure_bus _ w _).trans (written_bus _ s)⟩
    | _ => cases hi
  · rintro pad low med high (rfl | rfl)
    · exact (whenConfigured_sendFrame_traffic h).imp_right fun ⟨hne, hbus⟩ => ⟨hne, _, rfl, hbus⟩
    · exact (whenConfigured_sendFrame_traffic h).imp_right fun ⟨hne, hbus⟩ => ⟨hne, _, rfl, hbus⟩
  · rintro rfl
    obtain ⟨-, rfl⟩ | ⟨-, o, ho, rfl⟩ := exec_read_next_iff.mp h
    · exact .inl ⟨rfl, rfl⟩
    · have hne := mt (finishRead_error_iff ho (readDone s) .notConfigured).mp (readError_ne_notConfigured s)
      exact .inr ⟨by simpa using hne, by simp [readDone_bus]⟩
  · obtain ⟨r, rfl⟩ := next_of_not_usesBus (usesBus_eq_false hi) h
    rfl

/-! The accessors before and after the first READ. -/

theorem reportedError_accessor_of_none {i : Instr} {s : State} (hi : isAccessor i = true) (hf : s.snap = none) :
    ∃ e, reportedError i s = some e := by
  cases i with
  | button n => simp only [reportedError, hf]; split_ifs <;> simp
  | slider n => simp only [reportedError, hf]; split_ifs <;> simp
  | _ => cases hi

theorem reportedError_accessor_of_held {i : Instr} {s : State} (hi : isAccessor i = true) (hf : s.snap.isSome = true) :
    reportedError i s ≠ some .noSnapshot := by
  have hheld : s.snap ≠ none := Option.isSome_iff_ne_none.mp hf
  cases i with
  | button n => simp only [reportedError, if_neg hheld]; split_ifs <;> simp
  | slider n => simp only [reportedError, if_neg hheld]; split_ifs <;> simp
  | _ => cases hi

theorem isHostOperation_of_isAccessor {i : Instr} (hi : isAccessor i = true) : isHostOperation i = true := by
  cases i with
  | button | slider => rfl
  | _ => cases hi

theorem exec_keeps_snap_isSome {i : Instr} {s t : State} (h : exec i s = .next t) (hf : s.snap.isSome = true) :
    t.snap.isSome = true := by
  cases exec_ends h with
  | reads => rfl
  | answers | refuses | sends | configureFails | configures | readFails => simpa using hf

/-- Settles O43: what an accessor reports is the first error of R114's table, which names one when nothing is held, and not
`NoSnapshot` when something is. -/
theorem noSnapshotUntilTheFirstRead : Obligations.NoSnapshotUntilTheFirstRead := by
  refine ⟨rfl, fun a s => rfl, fun i s t hi hf h v hok => ?_, fun i s t hf h => ⟨exec_keeps_snap_isSome h hf, fun hi hr => ?_⟩⟩
  · obtain ⟨e, he⟩ := reportedError_accessor_of_none hi hf
    have herror := (firstErrorInOrderIsReported i s t e (isHostOperation_of_isAccessor hi) h).mpr he
    simp [hok] at herror
  · exact reportedError_accessor_of_held hi hf
      ((firstErrorInOrderIsReported i s t .noSnapshot (isHostOperation_of_isAccessor hi) h).mp hr)

end Sys2Proof.Machine
end

section
/-! No instruction reads CFG (10_state.md R14, D19): two states alike but for CFG go on to states alike but for CFG. -/

namespace Sys2Proof.Machine

open Sys2Proof

/-- The states show the host, the bus and the next instruction the same but for CFG. -/
structure AlikeBesidesCfg (s s' : State) : Prop where
  results : s'.results = s.results
  bus : s'.bus = s.bus
  mode : s'.mode = s.mode
  snap : s'.snap = s.snap
  deviceAddress : s'.deviceAddress = s.deviceAddress

section
variable {s s' : State}

theorem alike_withCfg (s : State) (c : Option DeviceConfig) : AlikeBesidesCfg s { s with cfg := c } :=
  ⟨rfl, rfl, rfl, rfl, rfl⟩

theorem AlikeBesidesCfg.answered (h : AlikeBesidesCfg s s') (r : Result) :
    AlikeBesidesCfg (answered r s) (answered r s') :=
  ⟨congrArg (r :: ·) h.results, h.bus, h.mode, h.snap, h.deviceAddress⟩

theorem AlikeBesidesCfg.written (h : AlikeBesidesCfg s s') (p : List Byte) :
    AlikeBesidesCfg (written p s) (written p s') :=
  ⟨by simp [h.results], by simp [written_bus, h.bus, h.deviceAddress], by simp [h.mode], by simp [h.snap],
    by simp [h.deviceAddress]⟩

theorem AlikeBesidesCfg.readDone (h : AlikeBesidesCfg s s') : AlikeBesidesCfg (readDone s) (readDone s') :=
  ⟨by simp [h.results], by simp [readDone_bus, h.bus, h.deviceAddress], by simp [h.mode], by simp [h.snap],
    by simp [h.deviceAddress]⟩

theorem AlikeBesidesCfg.finishConfigure (h : AlikeBesidesCfg s s') (d : DeviceConfig) (w : WriteOutcome) :
    AlikeBesidesCfg (finishConfigure d w s) (finishConfigure d w s') := by
  cases w with
  | success => exact ⟨congrArg (_ :: ·) h.results, h.bus, rfl, h.snap, h.deviceAddress⟩
  | transportError cause => exact h.answered _

theorem AlikeBesidesCfg.finishRead (h : AlikeBesidesCfg s s') (o : ReadOutcome) :
    AlikeBesidesCfg (finishRead o s) (finishRead o s') := by
  cases o with
  | transportError cause => exact h.answered _
  | bytes received =>
    cases hd : decodeReceived received with
    | error e =>
      rw [finishRead_of_error hd, finishRead_of_error hd]
      exact h.answered _
    | ok f =>
      rw [finishRead_of_ok hd, finishRead_of_ok hd]
      exact ⟨congrArg (_ :: ·) h.results, h.bus, h.mode, rfl, h.deviceAddress⟩

end

/-! The instructions that do not call the bus. -/

theorem deliver_answers_alike (x : Except OpError Value) : ∃ r, ∀ s, deliver x s = answered r s := by
  cases x with
  | ok v => exact ⟨.ok v, fun _ => rfl⟩
  | error e => exact ⟨.error e, fun _ => rfl⟩

/-- A frame row and ILLEGAL_OP answer the same in every state. -/
theorem exec_answers_alike {i : Instr} (hi : usesBus i = false) (ha : isAccessor i = false) :
    ∃ r, ∀ s, exec i s = .next (answered r s) := by
  cases i with
  | configFrame | statusFrame | statusFrameUncalibrated =>
    obtain ⟨r, hr⟩ := deliver_answers_alike _
    exact ⟨r, fun s => congrArg _ (hr s)⟩
  | customThresholdFrame | sleepThresholdFrame | illegalOp => exact ⟨_, fun _ => rfl⟩
  | button | slider => cases ha
  | configure | setCustomThreshold | setSleepThreshold | read => cases hi

theorem needsConfigured_of_isAccessor {i : Instr} (hi : isAccessor i = true) : needsConfigured i = true := by
  cases i with
  | button | slider => rfl
  | _ => cases hi

theorem exec_answers_withCfg {i : Instr} (hi : usesBus i = false) (s : State) (c : Option DeviceConfig) :
    ∃ r, exec i s = .next (answered r s) ∧ exec i { s with cfg := c } = .next (answered r { s with cfg := c }) := by
  cases ha : isAccessor i with
  | false =>
    obtain ⟨r, hr⟩ := exec_answers_alike hi ha
    exact ⟨r, hr s, hr _⟩
  | true =>
    by_cases hm : s.mode = .unconfigured
    · have hn := needsConfigured_of_isAccessor ha
      exact ⟨_, exec_of_unconfigured hn hm, exec_of_unconfigured (s := { s with cfg := c }) hn hm⟩
    · have hm' := Mode.ne_unconfigured_iff.mp hm
      obtain ⟨r, hr⟩ := exec_accessor_determined_by_snap ha s.snap
      exact ⟨r, hr s hm' rfl, hr { s with cfg := c } hm' rfl⟩

/-! The operations that call the bus. -/

theorem whenConfigured_sendFrame_withCfg {s t : State} {p : List Byte} (c : Option DeviceConfig)
    (h : whenConfigured s (sendFrame p s) = .next t) :
    ∃ t', whenConfigured { s with cfg := c } (sendFrame p { s with cfg := c }) = .next t' ∧ AlikeBesidesCfg t t' := by
  obtain ⟨hm, rfl⟩ | ⟨hm, w, hw, rfl⟩ := whenConfigured_sendFrame_next_iff.mp h
  · exact ⟨_, whenConfigured_sendFrame_next_iff.mpr (.inl ⟨hm, rfl⟩), (alike_withCfg s c).answered _⟩
  · exact ⟨_, whenConfigured_sendFrame_next_iff.mpr (.inr ⟨hm, w, hw, rfl⟩), ((alike_withCfg s c).written p).answered _⟩

theorem exec_withCfg {i : Instr} {s t : State} (c : Option DeviceConfig) (h : exec i s = .next t) :
    ∃ t', exec i { s with cfg := c } = .next t' ∧ AlikeBesidesCfg t t' := by
  cases hi : usesBus i with
  | false =>
    obtain ⟨r, hr, hr'⟩ := exec_answers_withCfg hi s c
    obtain rfl : answered r s = t := by simpa [hr] using h
    exact ⟨_, hr', (alike_withCfg s c).answered r⟩
  | true =>
    cases i with
    | configure s1 s2 s3 skm psm dt arm kat o =>
      obtain ⟨hm, rfl⟩ | ⟨hm, hs, rfl⟩ | ⟨hm, hs, w, hw, rfl⟩ := exec_configure_next_iff.mp h
      · exact ⟨_, exec_configure_next_iff.mpr (.inl ⟨hm, rfl⟩), (alike_withCfg s c).answered _⟩
      · exact ⟨_, exec_configure_next_iff.mpr (.inr (.inl ⟨hm, hs, rfl⟩)), (alike_withCfg s c).answered _⟩
      · exact ⟨_, exec_configure_next_iff.mpr (.inr (.inr ⟨hm, hs, w, hw, rfl⟩)),
          ((alike_withCfg s c).written _).finishConfigure _ w⟩
    | setCustomThreshold => exact whenConfigured_sendFrame_withCfg c h
    | setSleepThreshold => exact whenConfigured_sendFrame_withCfg c h
    | read =>
      obtain ⟨hm, rfl⟩ | ⟨hm, o, ho, rfl⟩ := exec_read_next_iff.mp h
      · exact ⟨_, exec_read_next_iff.mpr (.inl ⟨hm, rfl⟩), (alike_withCfg s c).answered _⟩
      · exact ⟨_, exec_read_next_iff.mpr (.inr ⟨hm, o, ho, rfl⟩), (alike_withCfg s c).readDone.finishRead o⟩
    | _ => cases hi

/-- Settles O44: the two runs go through the same cases and keep `AlikeBesidesCfg`. -/
theorem noInstructionReadsTheConfiguration : Obligations.NoInstructionReadsTheConfiguration := by
  intro i s t c h
  obtain ⟨t', ht', halike⟩ := exec_withCfg c h
  exact ⟨t', ht', halike.results, halike.bus, halike.mode, halike.snap, halike.deviceAddress⟩

end Sys2Proof.Machine
end

section
/-! The words and codes of the table (30_encoding.md R63, 95_test_vectors.md), and one step of the host's script (R5, R45, R130,
R141). -/

namespace Sys2Proof.Machine

open Sys2Proof

/-- Settles O1: nine closed words, each decoded. -/
theorem frameWordsDecodeToTheirRows : Obligations.FrameWordsDecodeToTheirRows := by
  unfold Obligations.FrameWordsDecodeToTheirRows
  decide

theorem errorCode_le_nine (e : OpError) : (errorCode e).toNat ≤ 9 := by
  cases e <;> simp [errorCode]

/-- Settles O4: each select code by itself, and the result codes by the table of `errorCode`. -/
theorem selectAndResultCodes : Obligations.SelectAndResultCodes := by
  refine ⟨?_, fun v => rfl, rfl, fun cause => rfl, rfl, rfl, rfl, rfl, rfl, rfl, rfl, fun r => ?_⟩
  · rintro ⟨op, a, b, c, d, f0, f1, f2, mode2, override⟩
    refine ⟨?_, ?_, ?_, ?_, ?_, ?_, ?_⟩
    · rintro (rfl : op = 0#3)
      exact ⟨_, _, _, _, _, _, _, _, _, rfl⟩
    · rintro (rfl : op = 1#3)
      exact ⟨_, _, _, _, rfl⟩
    · rintro (rfl : op = 2#3)
      exact ⟨_, _, _, rfl⟩
    · rintro (rfl : op = 3#3)
      rfl
    · rintro (rfl : op = 4#3)
      exact ⟨_, rfl⟩
    · rintro (rfl : op = 5#3)
      exact ⟨_, rfl⟩
    · rintro ((rfl : op = 6#3) | (rfl : op = 7#3))
      · exact ⟨_, rfl, fun _ => rfl⟩
      · exact ⟨_, rfl, fun _ => rfl⟩
  · cases r with
    | ok v => exact Nat.zero_le 9
    | error e => exact errorCode_le_nine e

/-- Settles O5: fetching takes the move and decodes it. -/
theorem stepRunsTheDecodedInstruction : Obligations.StepRunsTheDecodedInstruction :=
  fun _ _ _ _ hs hd => step_run hs hd

theorem decodeTableWord_some {nbits w : Nat} {i : Instr} (h : decodeTableWord nbits w = some i) :
    decode (presentedOfTableWord nbits w) = .instr i := by
  unfold decodeTableWord at h
  split at h
  next j hj => rw [hj, Option.some.inj h]
  next => cases h

/-- Settles O6: the placed word is the head of the script, and taking it leaves the state it was placed on. -/
theorem placedWordRunsNext : Obligations.PlacedWordRunsNext :=
  fun s nbits w _ h => step_run (s := s.withFetchWord nbits w) (rest := s.script) rfl (decodeTableWord_some h)

/-- Settles O7: `fetch` finds no move, or rejects the one it finds. -/
theorem stepWithoutAnInstruction : Obligations.StepWithoutAnInstruction := by
  refine ⟨fun s hs => ?_, fun s bytes rest why hs hd => ?_⟩
  · rw [step, fetch, hs]
  · have hfetch : fetch s = .rejected why := by simp [fetch, hs, hd]
    rw [step, hfetch]

/-- Settles O8: `reinstantiate` on the state with the move taken. -/
theorem resetMoveGivesAFreshBlock : Obligations.ResetMoveGivesAFreshBlock :=
  fun _ _ _ hs => step_reset hs

end Sys2Proof.Machine
end
